-- ==== Sys2Proof/Word.lean ====
section
/-!
DEFINITION. The words of the block: bytes and finite sequences of bytes (`00_scope.md` R7, R8).
-/

namespace Sys2Proof

/-- A byte: an unsigned 8-bit value (R7). -/
abbrev Byte := BitVec 8

/-- A finite ordered sequence of bytes (R8). The bound 65535 on its length is checked by
`Instr.WellFormed` and by the decoder. -/
abbrev ByteSeq := List Byte

end Sys2Proof
end

