-- ==== Sys2Proof/Config.lean ====
section
/-!
DEFINITION. The parameters of the hardware (`00_scope.md` R5, R30: constants, never written) and its one free value.
-/

namespace Sys2Proof

/-- `SENTINEL`, the start marker byte (R5). UNVERIFIED: the source's only literal, unaudited (D6, log entry 14). -/
abbrev Config.sentinel : Byte := 0x55#8

/-- `LEN_MAX`, the largest value of the length field (R5). -/
abbrev Config.lenMax : Nat := 255

/-- `PAYLOAD_CAP`, the number of cells of a payload buffer (R5). -/
abbrev Config.payloadCap : Nat := 256

/-- `FRAME_MIN`, the serialised size of a frame of length 0 (R5). -/
abbrev Config.frameMin : Nat := 4

/-- `FRAME_MAX`, the serialised size of a frame of length 255 (R5). -/
abbrev Config.frameMax : Nat := 259

/-- The largest length of a ByteSeq (R8, D9). -/
abbrev Config.seqMax : Nat := 65535

/-- FREE VALUE: what payload cell `i` happens to hold when nothing has written it since power-up (`10_state.md` R26,
R32, U7: "any value"). It has no body, so no claim can lean on it. DESIGN CHOICE, log entry 4. -/
opaque Config.powerUpCell : Nat → Byte

end Sys2Proof
end

