-- ==== Sys2Proof/Syntax.lean ====
section
/-!
DEFINITION. The names of the block: parser states, Frame values, the sequencing key, the transitions, and the
operations of `spec/opcode_table.json`, one constructor per row.
-/

namespace Sys2Proof

/-- The four parser states (`10_state.md` R22). Their codes are `PState.code`. -/
inductive PState where
  | waitStart
  | readHeader
  | readPayload
  | verifyChecksum
  deriving DecidableEq, Repr

/-- A Frame value (`00_scope.md` R9). Only the first `length` payload cells are meaningful. -/
structure Frame where
  startMarker : Byte
  messageId : Byte
  length : Byte
  payload : Vector Byte 256
  checksum : Byte
  deriving DecidableEq, Repr

/-- What, besides the input byte, decides the transition P.BYTE performs: (`pstate`, `hdr_count`, `cursor`,
`pf.length`) (`10_state.md` R27, `30_encoding.md` R84). -/
structure Key where
  pstate : PState
  hdrCount : BitVec 2
  cursor : BitVec 8
  length : Byte
  deriving DecidableEq, Repr

/-- The eight transitions, the cases of P.BYTE (`30_encoding.md` R84). -/
inductive Transition where
  | sync
  | skip
  | ident
  | len
  | len0
  | pay
  | payl
  | csum
  deriving DecidableEq, Repr

/-- The instructions: one constructor per row of `spec/opcode_table.json`. The first nine are the operations a host
requests (`30_encoding.md` R76); the last eight are the transitions of P.BYTE, each with its input byte where the
row's pattern does not fix it (R84). -/
inductive Instr where
  /-- CS.CLR, R102. -/
  | csClr
  /-- CS.FOLD b, R103. -/
  | csFold (b : Byte)
  /-- CSUM s, R104. -/
  | csum (s : ByteSeq)
  /-- BUILD msg, id, req_len, R115. -/
  | build (msg : ByteSeq) (ident : Byte) (reqLen : BitVec 16)
  /-- VERIFY f, R121. -/
  | verify (f : Frame)
  /-- SER f, R125. -/
  | ser (f : Frame)
  /-- DESER buf, R128. -/
  | deser (buf : ByteSeq)
  /-- P.INIT, R140. -/
  | pInit
  /-- P.BYTE b, R141. -/
  | pByte (b : Byte)
  /-- P.SYNC, R142; the input byte is the sentinel. -/
  | pSync
  /-- P.SKIP, R143; the input byte is not the sentinel. -/
  | pSkip (b : Byte)
  /-- P.ID, R144. -/
  | pId (b : Byte)
  /-- P.LEN, R145; the input byte is not zero. -/
  | pLen (b : Byte)
  /-- P.LEN0, R146; the input byte is zero. -/
  | pLen0
  /-- P.PAY, R147. -/
  | pPay (b : Byte)
  /-- P.PAYL, R148. -/
  | pPayl (b : Byte)
  /-- P.CSUM, R149. -/
  | pCsum (b : Byte)
  deriving DecidableEq, Repr

end Sys2Proof
end

