-- ==== Sys2Proof/WellFormed.lean ====
section
/-!
DEFINITION. Which instructions can be expressed: a byte sequence has at most 65535 bytes (`00_scope.md` R8, D9), and a
transition row whose condition speaks of the input byte has such a byte (`30_encoding.md` R84).
-/

namespace Sys2Proof

/-- A byte sequence that the count port `a_seq_n` can describe (R8, U14). -/
def ByteSeq.fits (s : ByteSeq) : Bool := decide (s.length ≤ Config.seqMax)

/-- The instruction's operands are values its encoding admits. -/
def Instr.WellFormed : Instr → Bool
  | .csClr => true
  | .csFold _ => true
  | .csum s => ByteSeq.fits s
  | .build msg _ _ => ByteSeq.fits msg
  | .verify _ => true
  | .ser _ => true
  | .deser buf => ByteSeq.fits buf
  | .pInit => true
  | .pByte _ => true
  | .pSync => true
  | .pSkip b => decide (b ≠ Config.sentinel)
  | .pId _ => true
  | .pLen b => decide (b ≠ 0x00#8)
  | .pLen0 => true
  | .pPay _ => true
  | .pPayl _ => true
  | .pCsum _ => true

end Sys2Proof
end

