-- ==== Sys2Proof/Decode.lean ====
section
/-!
DEFINITION. The two decoders of the block and their encoder.
First the request on the host port, whose code `op` names one of nine operations (`30_encoding.md` R76 to R78); then
the transition key, which names the case of P.BYTE (R84).
-/

namespace Sys2Proof

/-! ### Frames and cells -/

/-- An array of 256 bytes from the content of each index. -/
def cellsOf (f : Nat → Byte) : Vector Byte 256 :=
  ⟨((List.range 256).map f).toArray, by simp⟩

/-- The Frame value with every byte zero: what an idle Frame port carries. -/
def Frame.zero : Frame :=
  { startMarker := 0, messageId := 0, length := 0, payload := cellsOf (fun _ => 0), checksum := 0 }

/-! ### The input ports -/

/-- The input ports in one step (`30_encoding.md` R78) and the reset input (`70_reset_and_hazards.md` R200).
`a_seq` and its count `a_seq_n` are one sequence here: the count is its length (log entry 9). -/
structure Inputs where
  rst : Bool
  opValid : Bool
  op : BitVec 4
  aByte : Byte
  aId : Byte
  aLen : BitVec 16
  aSeq : ByteSeq
  aFrame : Frame
  deriving DecidableEq, Repr

/-- No request and no reset; every operand port at zero. -/
def Inputs.idle : Inputs :=
  { rst := false, opValid := false, op := 0, aByte := 0, aId := 0, aLen := 0, aSeq := [], aFrame := Frame.zero }

/-- A request with code `op` and every operand port at zero. -/
def Inputs.request (op : BitVec 4) : Inputs :=
  { Inputs.idle with opValid := true, op := op }

/-! ### Decoding -/

/-- Why the decoder rejects. -/
inductive DecodeError where
  /-- An operation code from 9 to 15 (`30_encoding.md` R77). -/
  | reservedOp (op : BitVec 4)
  /-- A byte sequence of more than 65535 bytes, which the ports cannot express (R8, U14). -/
  | seqTooLong (n : Nat)
  /-- A transition key with no row (`42_parser.md` R151). -/
  | noRow (k : Key)
  deriving DecidableEq, Repr

/-- An instruction whose operand is the sequence `s`. -/
def decodeSeq (s : ByteSeq) (i : Instr) : Except DecodeError Instr :=
  if ByteSeq.fits s then .ok i else .error (.seqTooLong s.length)

/-- The operation a request selects (`30_encoding.md` R76, R77). -/
def decode (r : Inputs) : Except DecodeError Instr :=
  match r.op.toNat with
  | 0 => .ok .csClr
  | 1 => .ok (.csFold r.aByte)
  | 2 => decodeSeq r.aSeq (.csum r.aSeq)
  | 3 => decodeSeq r.aSeq (.build r.aSeq r.aId r.aLen)
  | 4 => .ok (.verify r.aFrame)
  | 5 => .ok (.ser r.aFrame)
  | 6 => decodeSeq r.aSeq (.deser r.aSeq)
  | 7 => .ok .pInit
  | 8 => .ok (.pByte r.aByte)
  | _ => .error (.reservedOp r.op)

/-- The transition P.BYTE performs on the input byte `b`: the case analysis of `42_parser.md` R141, with no case where
R151 gives none (any state with `hdr_count` = 3 among them). The comparison `cursor + 1 < pf.length` is on
integers (R158). -/
def transitionOf (k : Key) (b : Byte) : Option Transition :=
  if k.hdrCount = 3#2 then none
  else
    match k.pstate with
    | .waitStart => if b = Config.sentinel then some .sync else some .skip
    | .readHeader =>
      if k.hdrCount = 1#2 then some .ident
      else if k.hdrCount = 2#2 then (if b ≠ 0x00#8 then some .len else some .len0)
      else none
    | .readPayload =>
      if k.cursor.toNat < k.length.toNat then
        (if k.cursor.toNat + 1 < k.length.toNat then some .pay else some .payl)
      else none
    | .verifyChecksum => some .csum

/-- One row of the transition table: its condition on the key and the input byte, as `30_encoding.md` R84 lists it. -/
def Transition.RowMatches (t : Transition) (k : Key) (b : Byte) : Prop :=
  match t with
  | .sync => k.pstate = .waitStart ∧ b = 0x55#8
  | .skip => k.pstate = .waitStart ∧ b ≠ 0x55#8
  | .ident => k.pstate = .readHeader ∧ k.hdrCount = 1#2
  | .len => k.pstate = .readHeader ∧ k.hdrCount = 2#2 ∧ b ≠ 0x00#8
  | .len0 => k.pstate = .readHeader ∧ k.hdrCount = 2#2 ∧ b = 0x00#8
  | .pay => k.pstate = .readPayload ∧ k.cursor.toNat + 1 < k.length.toNat
  | .payl => k.pstate = .readPayload ∧ k.cursor.toNat + 1 = k.length.toNat
  | .csum => k.pstate = .verifyChecksum

/-- The instruction of a transition and its input byte. -/
def Transition.toInstr (t : Transition) (b : Byte) : Instr :=
  match t with
  | .sync => .pSync
  | .skip => .pSkip b
  | .ident => .pId b
  | .len => .pLen b
  | .len0 => .pLen0
  | .pay => .pPay b
  | .payl => .pPayl b
  | .csum => .pCsum b

/-- The row of the transition table that a key and an input byte name (`30_encoding.md` R84). -/
def decodeKey (k : Key) (b : Byte) : Except DecodeError Instr :=
  match transitionOf k b with
  | some t => .ok (t.toInstr b)
  | none => .error (.noRow k)

/-! ### Words -/

/-- The code of a parser state (`30_encoding.md` R79). -/
def PState.code : PState → BitVec 2
  | .waitStart => 0b00#2
  | .readHeader => 0b01#2
  | .readPayload => 0b10#2
  | .verifyChecksum => 0b11#2

/-- The parser state of a code (R79). -/
def PState.ofCode (c : BitVec 2) : PState :=
  match c.toNat with
  | 0 => .waitStart
  | 1 => .readHeader
  | 2 => .readPayload
  | _ => .verifyChecksum

/-- What the encoder writes: a request on the host port (format OP), or a transition key with its input byte
(format PT). -/
inductive Encoded where
  | request (r : Inputs)
  | transition (k : Key) (b : Byte)
  deriving DecidableEq, Repr

/-- The bits `opcode_table.json` gives a format PT row: `op` (always 1000), `pstate`, the input byte (R84). -/
def transitionWord (k : Key) (b : Byte) : BitVec 14 :=
  0b1000#4 ++ k.pstate.code ++ b

/-- The bits `opcode_table.json` gives an encoded instruction: the four bits of `op`, or the fourteen of a
transition. -/
def Encoded.word : Encoded → Nat
  | .request r => r.op.toNat
  | .transition k b => (transitionWord k b).toNat

/-- Decode either format. -/
def decodeEncoded : Encoded → Except DecodeError Instr
  | .request r => decode r
  | .transition k b => decodeKey k b

/-- A key that names the row `t`: the row's `pstate` and, for the parts of the key the row's bits do not hold, values
that meet its condition in a reachable state (`10_state.md` R33). -/
def Transition.key : Transition → Key
  | .sync => { pstate := .waitStart, hdrCount := 0, cursor := 0, length := 0 }
  | .skip => { pstate := .waitStart, hdrCount := 0, cursor := 0, length := 0 }
  | .ident => { pstate := .readHeader, hdrCount := 1, cursor := 0, length := 0 }
  | .len => { pstate := .readHeader, hdrCount := 2, cursor := 0, length := 0 }
  | .len0 => { pstate := .readHeader, hdrCount := 2, cursor := 0, length := 0 }
  | .pay => { pstate := .readPayload, hdrCount := 2, cursor := 0, length := 2 }
  | .payl => { pstate := .readPayload, hdrCount := 2, cursor := 0, length := 1 }
  | .csum => { pstate := .verifyChecksum, hdrCount := 2, cursor := 0, length := 0 }

/-- The row of a transition word whose bits alone are known: a row that fixes the whole word before a row that leaves
the byte free, then the table's order. The rows P.ID and P.LEN share their words, and so do P.PAY and P.PAYL; no bit
tells them apart. DESIGN CHOICE, log entry 7. -/
def rowOfWord (p : PState) (b : Byte) : Transition :=
  match p with
  | .waitStart => if b = Config.sentinel then .sync else .skip
  | .readHeader => if b = 0x00#8 then .len0 else .ident
  | .readPayload => .pay
  | .verifyChecksum => .csum

/-- The parser state and the input byte in the bits of a transition word. -/
def wordPState (w : Nat) : PState := PState.ofCode (BitVec.ofNat 2 (w / 256))

/-- The input byte in the bits of a transition word. -/
def wordByte (w : Nat) : Byte := BitVec.ofNat 8 w

/-- The encoded instruction that the bits `w` of a table row stand for: at most eight bits are a request's `op`, with
every operand port at zero; more are a transition's `op | pstate | b`. None where `w` is no row's word. -/
def encodedOfWord (nbits w : Nat) : Option Encoded :=
  if nbits ≤ 8 then
    if w < 16 then some (.request (Inputs.request (BitVec.ofNat 4 w))) else none
  else if nbits ≤ 16 ∧ w / 1024 = 8 then
    some (.transition (rowOfWord (wordPState w) (wordByte w)).key (wordByte w))
  else none

/-- The instruction the decoder reads from the bits of a table row. -/
def decodeTableWord (nbits w : Nat) : Option Instr :=
  match encodedOfWord nbits w with
  | some e =>
    match decodeEncoded e with
    | .ok i => some i
    | .error _ => none
  | none => none

/-! ### Encoding -/

/-- The request or the transition key that stands for an instruction (`30_encoding.md` R76, R78, R84). -/
def encode : Instr → Encoded
  | .csClr => .request (Inputs.request 0b0000#4)
  | .csFold b => .request { Inputs.request 0b0001#4 with aByte := b }
  | .csum s => .request { Inputs.request 0b0010#4 with aSeq := s }
  | .build msg ident reqLen =>
    .request { Inputs.request 0b0011#4 with aSeq := msg, aId := ident, aLen := reqLen }
  | .verify f => .request { Inputs.request 0b0100#4 with aFrame := f }
  | .ser f => .request { Inputs.request 0b0101#4 with aFrame := f }
  | .deser buf => .request { Inputs.request 0b0110#4 with aSeq := buf }
  | .pInit => .request (Inputs.request 0b0111#4)
  | .pByte b => .request { Inputs.request 0b1000#4 with aByte := b }
  | .pSync => .transition Transition.sync.key Config.sentinel
  | .pSkip b => .transition Transition.skip.key b
  | .pId b => .transition Transition.ident.key b
  | .pLen b => .transition Transition.len.key b
  | .pLen0 => .transition Transition.len0.key 0x00#8
  | .pPay b => .transition Transition.pay.key b
  | .pPayl b => .transition Transition.payl.key b
  | .pCsum b => .transition Transition.csum.key b

/-- What the host drives on the input ports for an encoded instruction: a transition is a request P.BYTE of its byte. -/
def Encoded.inputs : Encoded → Inputs
  | .request r => r
  | .transition _ b => { Inputs.request 0b1000#4 with aByte := b }

end Sys2Proof
end

