-- ==== Sys2Proof/Machine/State.lean ====
section
/-!
DEFINITION. The state of one block as plain data (`10_state.md` R20), the results a step can answer, and the reasons
it can stop.
-/

namespace Sys2Proof.Machine

/-- The status of one P.BYTE (`30_encoding.md` R80). -/
inductive Status where
  | incomplete
  | frameValid
  | frameCorrupted
  deriving DecidableEq, Repr

/-- The errors (`30_encoding.md` R81, `60_exceptions.md` R171 to R175). -/
inductive ErrorCode where
  | checksumMismatch
  | truncatedInput
  | oversizedPayload
  | messageTooShort
  | illegalOp
  deriving DecidableEq, Repr

/-- What a step answers on the result ports, one constructor per kind of result (`30_encoding.md` R78: "a model gives
each operation its own result type"). -/
inductive Result where
  /-- No operation was performed: `op_valid` = 0 or `rst` = 1. -/
  | none
  /-- An operation that succeeds and returns nothing: CS.CLR, CS.FOLD, P.INIT. -/
  | done
  /-- CSUM: a byte. -/
  | byte (b : Byte)
  /-- BUILD, DESER: a Frame. -/
  | frame (f : Frame)
  /-- VERIFY: a verdict. -/
  | verdict (ok : Bool)
  /-- SER: a byte sequence. -/
  | seq (s : ByteSeq)
  /-- P.BYTE: a status. -/
  | status (st : Status)
  /-- An operation that ends in an error and returns no other result (`60_exceptions.md` R170). -/
  | error (e : ErrorCode)
  deriving DecidableEq, Repr

/-- The payload buffer (`20_memory.md` R50): the cells that hold a value, as pairs of index and byte. An index that is
not listed has been written by nothing since power-up. The one canonical form is `Memory.wf`. -/
abbrev Memory := List Host.Cell

/-- The state of one instance of the block (`10_state.md` R20), and last two fields of the model's own. -/
structure State where
  /-- The accumulator of CSA (R21). -/
  acc : Byte
  /-- The parser's state register (R22). -/
  pstate : PState
  /-- The header-byte counter (R23). -/
  hdrCount : BitVec 2
  /-- The payload write cursor (R24). -/
  cursor : BitVec 8
  /-- `pf.start_marker` (R25). -/
  pfStartMarker : Byte
  /-- `pf.message_id` (R25). -/
  pfMessageId : Byte
  /-- `pf.length` (R25). -/
  pfLength : Byte
  /-- `pf.payload` (R26). -/
  payload : Memory
  /-- `pf.checksum` (R25). -/
  pfChecksum : Byte
  /-- The MODEL's own: what the host drives on the input ports in the coming steps, oldest first (log entry 1). -/
  inputs : List Inputs
  /-- The MODEL's own: what the last step answered on the result ports (log entry 2). -/
  result : Result
  deriving DecidableEq, Repr

/-- Why the machine stops. -/
inductive Fault where
  /-- Raised by P.BYTE, and by the transition rows, in a parser state with no meaning (`42_parser.md` R151): `hdr_count`
  = 3, READ_HEADER with `hdr_count` not 1 or 2, READ_PAYLOAD with `cursor >= pf.length`. It names the state. Safe: the
  spec asks for a fault there (D22), and no such state is reached from reset. -/
  | noTransition (k : Key)
  deriving DecidableEq, Repr

/-- Why the model gives a step no meaning. -/
inductive Refusal where
  /-- Raised by `exec` for an instruction without a meaning; no arm of this model answers it. Safe. -/
  | notModelled (mnemonic : String)
  /-- Raised by the step for a request whose byte sequence has more than 65535 bytes, which the ports cannot express
  (`00_scope.md` R8, U14: refuse). Safe. -/
  | seqTooLong (n : Nat)
  /-- Raised by a transition row `wanted` in a state and for a byte whose key selects the transition `selected`
  instead (`30_encoding.md` R84): the row names a case that does not occur there. Safe. Log entry 6. -/
  | otherTransition (wanted selected : Transition)
  deriving DecidableEq, Repr

/-- The block after hardware reset at power-up (`10_state.md` R32, `70_reset_and_hazards.md` R200). The four frame
buffer registers have no value in the spec: `0x00` here, DESIGN CHOICE, log entry 3. -/
def State.reset : State :=
  { acc := 0x00#8
    pstate := .waitStart
    hdrCount := 0#2
    cursor := 0#8
    pfStartMarker := 0x00#8
    pfMessageId := 0x00#8
    pfLength := 0x00#8
    payload := []
    pfChecksum := 0x00#8
    inputs := []
    result := .none }

end Sys2Proof.Machine
end

