-- ==== Sys2Proof/Machine/Operands.lean ====
section
/-!
DEFINITION. The operand forms of the block: the fold of a byte sequence, the meaningful bytes of a Frame value, the
bytes a codec operation takes out of a message or a buffer (`30_encoding.md` R73, `40_checksum.md`, `41_codec.md`).
-/

namespace Sys2Proof.Machine

/-- The XOR fold of a byte sequence, starting from zero (`40_checksum.md` R100). -/
def xorfold (s : ByteSeq) : Byte :=
  s.foldl (fun a b => a ^^^ b) 0x00#8

/-- Element `i` of an operand sequence. Every use below reads at an index inside the sequence. -/
def seqByte (s : ByteSeq) (i : Nat) : Byte := s.getD i 0x00#8

/-- The total serialised size a length byte announces, `4 + zext_16(length)` (R73). -/
def wireSize (length : Byte) : BitVec 16 := 4#16 + length.zeroExtend 16

end Sys2Proof.Machine

namespace Sys2Proof

/-- The meaningful payload bytes of a Frame value, `payload[0..length)` (`00_scope.md` R8, R9); the length byte is an
unsigned count (`30_encoding.md` R73). -/
def Frame.bytes (f : Frame) : ByteSeq :=
  f.payload.toList.take f.length.toNat

/-- Equality as frames (R9): cells at indices at or above `length` do not take part. -/
def Frame.sameAs (f g : Frame) : Prop :=
  f.startMarker = g.startMarker ∧ f.messageId = g.messageId ∧ f.length = g.length ∧ f.checksum = g.checksum ∧
    f.bytes = g.bytes

/-- The checksum of a frame: the fold of message_id, length and the payload bytes, in that order
(`40_checksum.md` R106). -/
def Frame.csum (f : Frame) : Byte :=
  Machine.xorfold ([f.messageId, f.length] ++ f.bytes)

/-- The validity predicate of a Frame value (`41_codec.md` R121). -/
def Frame.isValid (f : Frame) : Bool := f.csum == f.checksum

end Sys2Proof
end

