-- ==== Sys2Proof/Machine/Ops.lean ====
section
/-!
DEFINITION. The named operations over the payload buffer and the registers that every meaning is written with.
-/

namespace Sys2Proof.Machine

/-! ### The payload buffer (`20_memory.md` R50) -/

/-- The byte listed at index `i`, or none when nothing has written the cell. -/
def Memory.read : Memory → Nat → Option Byte
  | [], _ => none
  | (a, b) :: m, i => if a = i then some b else Memory.read m i

/-- Store `v` at index `i`, keeping the indices rising. -/
def Memory.write : Memory → Nat → Byte → Memory
  | [], i, v => [(i, v)]
  | (a, b) :: m, i, v =>
    if i < a then (i, v) :: (a, b) :: m
    else if i = a then (i, v) :: m
    else (a, b) :: Memory.write m i v

/-- The canonical form: indices strictly rising, each one a cell of the buffer. An unlisted cell holds no value, so no
entry can equal what an unlisted cell reads as. -/
abbrev Memory.wf (m : Memory) : Prop :=
  (m.map Prod.fst).Pairwise (· < ·) ∧ ∀ i ∈ m.map Prod.fst, i < Config.payloadCap

/-- `MemRead(i, 1)`: the byte in cell `i`; a cell nothing has written holds any value (R32, U7; log entry 4). -/
def State.readCell (s : State) (i : Nat) : Byte :=
  (Memory.read s.payload i).getD (Config.powerUpCell i)

/-- `MemWrite(i, 1, v)`. The index is always the 8-bit cursor, so it is a cell of the buffer. -/
def State.writeCell (s : State) (i : BitVec 8) (v : Byte) : State :=
  { s with payload := Memory.write s.payload i.toNat v }

/-- The parser's frame buffer as a Frame record: what the port `p_frame` shows (`10_state.md` R31) and what the
transition P.CSUM verifies (`42_parser.md` R149). -/
def State.pFrame (s : State) : Frame :=
  { startMarker := s.pfStartMarker
    messageId := s.pfMessageId
    length := s.pfLength
    payload := cellsOf s.readCell
    checksum := s.pfChecksum }

/-! ### The sequencing registers -/

/-- The sequencing state, the part of the transition key that is state (`10_state.md` R27). -/
abbrev State.key (s : State) : Key :=
  { pstate := s.pstate, hdrCount := s.hdrCount, cursor := s.cursor, length := s.pfLength }

/-- The parser's sequencing registers at their initial values: the effect of P.INIT and of a completed frame
(`10_state.md` R32). -/
def State.rearm (s : State) : State :=
  { s with pstate := .waitStart, hdrCount := 0#2, cursor := 0#8 }

/-! ### Answers, errors and reset -/

/-- The step's result goes out on the result ports (`10_state.md` R28: it is held nowhere; log entry 2). -/
def State.answer (s : State) (r : Result) : State :=
  { s with result := r }

/-- TAKING AN ERROR (`60_exceptions.md` R170): the error's code is the step's result; no state is written, nothing is
saved, no mode changes and control goes nowhere. There is nothing to return from (R180). -/
def State.raise (s : State) (e : ErrorCode) : State :=
  s.answer (.error e)

/-- A step without an operation (`30_encoding.md` R78): no state changes. -/
def State.idle (s : State) : State :=
  s.answer .none

/-- The effect of a step with `rst` = 1 (`70_reset_and_hazards.md` R200): those of CS.CLR and P.INIT together; the
frame buffer is not written (log entry 5); the request is ignored, returning nothing (`60_exceptions.md` R178). -/
def State.hardwareReset (s : State) : State :=
  { s.rearm with acc := 0x00#8 }.answer .none

/-! ### The request port (`30_encoding.md` R78) -/

/-- What the host drives on the input ports in this step, and the state once it is taken; none when the host drives
nothing. -/
def State.fetch (s : State) : Option (Inputs × State) :=
  match s.inputs with
  | [] => none
  | r :: rest => some (r, { s with inputs := rest })

/-- The host drives `r` on the input ports in the very next step. -/
def State.present (s : State) (r : Inputs) : State :=
  { s with inputs := r :: s.inputs }

/-- The parser in the sequencing state `k`. -/
def State.withKey (s : State) (k : Key) : State :=
  { s with pstate := k.pstate, hdrCount := k.hdrCount, cursor := k.cursor, pfLength := k.length }

/-- The state in which the very next step performs `e`: the request on the input ports and, for a transition, the
parser in the sequencing state that selects it. -/
def State.presentEncoded (s : State) (e : Encoded) : State :=
  match e with
  | .request r => s.present r
  | .transition k b => (s.withKey k).present (Encoded.transition k b).inputs

/-- The state in which the very next step performs the instruction of the table bits `w`. Bits of no row are presented
as the reserved code 15. -/
def State.presentWord (s : State) (nbits w : Nat) : State :=
  match encodedOfWord nbits w with
  | some e => s.presentEncoded e
  | none => s.present (Inputs.request 15#4)

/-- The answer where the decoder rejects: a reserved code raises IllegalOp (`60_exceptions.md` R175); a sequence the
ports cannot express is refused (U14); a transition key with no row is the fault of `42_parser.md` R151. -/
def rejectRequest (e : DecodeError) (s : State) : Host.Outcome State Fault Refusal :=
  match e with
  | .reservedOp _ => .next (s.raise .illegalOp)
  | .seqTooLong n => .refused (.seqTooLong n)
  | .noRow k => .fault (.noTransition k)

end Sys2Proof.Machine
end

