-- ==== Sys2Proof/Machine/Checksum.lean ====
section
/-!
DEFINITION. The unit CSA: CS.CLR, CS.FOLD and CSUM (`40_checksum.md`).
-/

namespace Sys2Proof.Machine

/-- CS.CLR (R102). -/
def execCsClr (s : State) : Host.Outcome State Fault Refusal :=
  .next ({ s with acc := 0x00#8 }.answer .done)

/-- CS.FOLD b (R103). -/
def execCsFold (b : Byte) (s : State) : Host.Outcome State Fault Refusal :=
  .next ({ s with acc := s.acc ^^^ b }.answer .done)

/-- CSUM s (R104): reads no state, writes none. -/
def execCsum (seq : ByteSeq) (s : State) : Host.Outcome State Fault Refusal :=
  .next (s.answer (.byte (xorfold seq)))

end Sys2Proof.Machine
end

