-- ==== Sys2Proof/Machine/Codec.lean ====
section
/-!
DEFINITION. The stateless units ENC, VFY and DEC: BUILD, VERIFY, SER and DESER (`41_codec.md`).
-/

namespace Sys2Proof.Machine

/-- The frame BUILD returns when both checks pass (R115); the cells at and above `req_len` are `0x00` (D12). -/
def builtFrame (msg : ByteSeq) (ident : Byte) (reqLen : BitVec 16) : Frame :=
  { startMarker := Config.sentinel
    messageId := ident
    length := reqLen.truncate 8
    payload := cellsOf (fun i => if i < reqLen.toNat then seqByte msg i else 0x00#8)
    checksum := xorfold ([ident, reqLen.truncate 8] ++ msg.take reqLen.toNat) }

/-- What BUILD returns: OversizedPayload is tested first (R116, D11), then MessageTooShort (R117). -/
def buildFrame (msg : ByteSeq) (ident : Byte) (reqLen : BitVec 16) : Except ErrorCode Frame :=
  if Config.lenMax < reqLen.toNat then .error .oversizedPayload
  else if msg.length < reqLen.toNat then .error .messageTooShort
  else .ok (builtFrame msg ident reqLen)

/-- The bytes of a frame in wire order (R125, `30_encoding.md` R70). -/
def serialise (f : Frame) : ByteSeq :=
  [f.startMarker, f.messageId, f.length] ++ f.bytes ++ [f.checksum]

/-- The frame in a complete buffer (R128); the first byte is not tested, bytes after the frame are ignored, the cells
at and above the length are `0x00` (D12, D13). -/
def decodedFrame (buf : ByteSeq) : Frame :=
  { startMarker := seqByte buf 0
    messageId := seqByte buf 1
    length := seqByte buf 2
    payload := cellsOf (fun i => if i < (seqByte buf 2).toNat then seqByte buf (3 + i) else 0x00#8)
    checksum := seqByte buf (3 + (seqByte buf 2).toNat) }

/-- What DESER returns: a buffer without its header or shorter than its header says is TruncatedInput (R129). -/
def deserialise (buf : ByteSeq) : Except ErrorCode Frame :=
  if buf.length < 3 then .error .truncatedInput
  else if buf.length < (wireSize (seqByte buf 2)).toNat then .error .truncatedInput
  else .ok (decodedFrame buf)

/-- A Frame, or the error that stands in its place (`60_exceptions.md` R170). -/
def State.answerFrame (s : State) (r : Except ErrorCode Frame) : State :=
  match r with
  | .ok f => s.answer (.frame f)
  | .error e => s.raise e

/-- BUILD msg, id, req_len (R115 to R117). -/
def execBuild (msg : ByteSeq) (ident : Byte) (reqLen : BitVec 16) (s : State) : Host.Outcome State Fault Refusal :=
  .next (s.answerFrame (buildFrame msg ident reqLen))

/-- VERIFY f (R121). The error ChecksumMismatch of a false verdict is `Result.errorOf`. -/
def execVerify (f : Frame) (s : State) : Host.Outcome State Fault Refusal :=
  .next (s.answer (.verdict f.isValid))

/-- SER f (R125): the fields as stored, nothing checked (D30). -/
def execSer (f : Frame) (s : State) : Host.Outcome State Fault Refusal :=
  .next (s.answer (.seq (serialise f)))

/-- DESER buf (R128, R129). -/
def execDeser (buf : ByteSeq) (s : State) : Host.Outcome State Fault Refusal :=
  .next (s.answerFrame (deserialise buf))

end Sys2Proof.Machine
end

