-- ==== Sys2Proof/Machine/Flags.lean ====
section
/-!
DEFINITION. The block has no flags (`10_state.md` R28). What stands in their place is computed here: the codes of
statuses and errors, and the error code that goes with each result (`30_encoding.md` R80, R81).
-/

namespace Sys2Proof.Machine

/-- The status code on `r_status` (R80). -/
def Status.code : Status → BitVec 2
  | .incomplete => 0b00#2
  | .frameValid => 0b01#2
  | .frameCorrupted => 0b10#2

/-- The error code on `r_err` (R81). -/
def ErrorCode.code : ErrorCode → BitVec 3
  | .checksumMismatch => 1#3
  | .truncatedInput => 2#3
  | .oversizedPayload => 3#3
  | .messageTooShort => 4#3
  | .illegalOp => 5#3

/-- The status of a completed frame (`42_parser.md` R149). -/
def statusOf (ok : Bool) : Status := if ok then .frameValid else .frameCorrupted

/-- The error that goes with a result: a false verdict and a corrupted frame carry ChecksumMismatch
(`41_codec.md` R121, `42_parser.md` R141, `60_exceptions.md` R171, D16). -/
def Result.errorOf : Result → Option ErrorCode
  | .none => Option.none
  | .done => Option.none
  | .byte _ => Option.none
  | .frame _ => Option.none
  | .verdict ok => if ok then Option.none else some .checksumMismatch
  | .seq _ => Option.none
  | .status st =>
    match st with
    | .incomplete => Option.none
    | .frameValid => Option.none
    | .frameCorrupted => some .checksumMismatch
  | .error e => some e

end Sys2Proof.Machine
end

