-- ==== Sys2Proof/Machine/Parser.lean ====
section
/-!
DEFINITION. The unit PRS: P.INIT, P.BYTE and its eight transitions (`42_parser.md`).
-/

namespace Sys2Proof.Machine

/-! ### The effects of the eight transitions -/

/-- P.SYNC (R142): the sentinel is found. -/
def State.takeSync (b : Byte) (s : State) : State :=
  { s with pfStartMarker := b, hdrCount := 1#2, pstate := .readHeader }.answer (.status .incomplete)

/-- P.SKIP (R143): a stray byte is discarded; no register is written. -/
def State.takeSkip (s : State) : State :=
  s.answer (.status .incomplete)

/-- P.ID (R144): the message id; `pstate` stays. -/
def State.takeIdent (b : Byte) (s : State) : State :=
  { s with pfMessageId := b, hdrCount := 2#2 }.answer (.status .incomplete)

/-- P.LEN (R145): a non-zero length; `hdr_count` stays 2. -/
def State.takeLen (b : Byte) (s : State) : State :=
  { s with pfLength := b, cursor := 0#8, pstate := .readPayload }.answer (.status .incomplete)

/-- P.LEN0 (R146): a zero length goes straight to VERIFY_CHECKSUM (D17). -/
def State.takeLen0 (s : State) : State :=
  { s with pfLength := 0x00#8, cursor := 0#8, pstate := .verifyChecksum }.answer (.status .incomplete)

/-- Store a payload byte at the cursor and advance it: what P.PAY and P.PAYL share. -/
def State.storePayload (b : Byte) (s : State) : State :=
  { s.writeCell s.cursor b with cursor := s.cursor + 1#8 }

/-- P.PAY (R147): a payload byte that is not the last; `pstate` stays. -/
def State.takePay (b : Byte) (s : State) : State :=
  (s.storePayload b).answer (.status .incomplete)

/-- P.PAYL (R148): the last payload byte. -/
def State.takePayl (b : Byte) (s : State) : State :=
  { s.storePayload b with pstate := .verifyChecksum }.answer (.status .incomplete)

/-- P.CSUM (R149): store the checksum, verify the frame buffer with it, re-arm whatever the verdict. -/
def State.takeCsum (b : Byte) (s : State) : State :=
  let stored : State := { s with pfChecksum := b }
  stored.rearm.answer (.status (statusOf stored.pFrame.isValid))

/-- The effect of a transition on the input byte `b`. -/
def State.take (t : Transition) (b : Byte) (s : State) : State :=
  match t with
  | .sync => s.takeSync b
  | .skip => s.takeSkip
  | .ident => s.takeIdent b
  | .len => s.takeLen b
  | .len0 => s.takeLen0
  | .pay => s.takePay b
  | .payl => s.takePayl b
  | .csum => s.takeCsum b

/-! ### The operations -/

/-- A row of the transition table as an instruction: P.BYTE of the byte `b` where the key selects that row
(`30_encoding.md` R84). Where it selects another, the row has no meaning (log entry 6); where it selects none, P.BYTE
has none (R151). -/
def execRow (t : Transition) (b : Byte) (s : State) : Host.Outcome State Fault Refusal :=
  match transitionOf s.key b with
  | some t' => if t' = t then .next (s.take t b) else .refused (.otherTransition t t')
  | none => .fault (.noTransition s.key)

/-- P.INIT (R140). The frame buffer and the accumulator are not written. -/
def execPInit (s : State) : Host.Outcome State Fault Refusal :=
  .next (s.rearm.answer .done)

/-- P.BYTE b (R141): the transition the key selects, or the fault of R151. -/
def execPByte (b : Byte) (s : State) : Host.Outcome State Fault Refusal :=
  match transitionOf s.key b with
  | some t => .next (s.take t b)
  | none => .fault (.noTransition s.key)

/-- The row P.SYNC (R142). -/
def execPSync (s : State) : Host.Outcome State Fault Refusal :=
  execRow .sync Config.sentinel s

/-- The row P.SKIP (R143). -/
def execPSkip (b : Byte) (s : State) : Host.Outcome State Fault Refusal :=
  execRow .skip b s

/-- The row P.ID (R144). -/
def execPId (b : Byte) (s : State) : Host.Outcome State Fault Refusal :=
  execRow .ident b s

/-- The row P.LEN (R145). -/
def execPLen (b : Byte) (s : State) : Host.Outcome State Fault Refusal :=
  execRow .len b s

/-- The row P.LEN0 (R146). -/
def execPLen0 (s : State) : Host.Outcome State Fault Refusal :=
  execRow .len0 0x00#8 s

/-- The row P.PAY (R147). -/
def execPPay (b : Byte) (s : State) : Host.Outcome State Fault Refusal :=
  execRow .pay b s

/-- The row P.PAYL (R148). -/
def execPPayl (b : Byte) (s : State) : Host.Outcome State Fault Refusal :=
  execRow .payl b s

/-- The row P.CSUM (R149). -/
def execPCsum (b : Byte) (s : State) : Host.Outcome State Fault Refusal :=
  execRow .csum b s

end Sys2Proof.Machine
end

