-- ==== Sys2Proof/Machine/Dispatch.lean ====
section
/-!
DEFINITION. One arm per constructor of `Instr`: the instruction's meaning.
-/

namespace Sys2Proof.Machine

/-- What an instruction does to the state. -/
def exec (i : Instr) (s : State) : Host.Outcome State Fault Refusal :=
  match i with
  | .csClr => Sys2Proof.Machine.execCsClr s
  | .csFold b => Sys2Proof.Machine.execCsFold b s
  | .csum q => Sys2Proof.Machine.execCsum q s
  | .build msg ident reqLen => Sys2Proof.Machine.execBuild msg ident reqLen s
  | .verify f => Sys2Proof.Machine.execVerify f s
  | .ser f => Sys2Proof.Machine.execSer f s
  | .deser buf => Sys2Proof.Machine.execDeser buf s
  | .pInit => Sys2Proof.Machine.execPInit s
  | .pByte b => Sys2Proof.Machine.execPByte b s
  | .pSync => Sys2Proof.Machine.execPSync s
  | .pSkip b => Sys2Proof.Machine.execPSkip b s
  | .pId b => Sys2Proof.Machine.execPId b s
  | .pLen b => Sys2Proof.Machine.execPLen b s
  | .pLen0 => Sys2Proof.Machine.execPLen0 s
  | .pPay b => Sys2Proof.Machine.execPPay b s
  | .pPayl b => Sys2Proof.Machine.execPPayl b s
  | .pCsum b => Sys2Proof.Machine.execPCsum b s

end Sys2Proof.Machine
end

