-- ==== Sys2Proof/Machine/Step.lean ====
section
/-!
DEFINITION. One step of the block (`00_scope.md` R6, `30_encoding.md` R78, `70_reset_and_hazards.md` R200).
-/

namespace Sys2Proof.Machine

/-- One step on the values `r` of the input ports: reset wins over a request (`60_exceptions.md` R178), no request does
nothing, a request is decoded and performed. -/
def stepOn (r : Inputs) (s : State) : Host.Outcome State Fault Refusal :=
  if r.rst then .next s.hardwareReset
  else if r.opValid then
    match decode r with
    | .ok i => exec i s
    | .error e => rejectRequest e s
  else .next s.idle

/-- One step: take what the host drives on the input ports, or nothing, and perform it. -/
def step (s : State) : Host.Outcome State Fault Refusal :=
  match s.fetch with
  | none => .next s.idle
  | some (r, s') => stepOn r s'

/-- `s` with the instruction of the table bits `w` as the host's next request; for a transition row the parser also
stands in the sequencing state that selects it (log entries 1 and 7). -/
def State.withFetchWord (s : State) (nbits w : Nat) : State :=
  s.presentWord nbits w

end Sys2Proof.Machine
end

