-- ==== Sys2Proof/Machine/Ports.lean ====
section
/-!
DEFINITION. The output ports: the read ports, which show the state at any time and change nothing (`10_state.md` R31),
and the result ports of the step just done (`30_encoding.md` R78). A result port the operation does not use carries an
unspecified value (R78, U8): here it has none (log entry 10).
-/

namespace Sys2Proof.Machine

/-- `acc_out` (R31). -/
def State.accOut (s : State) : Byte := s.acc

/-- `p_state`: the code of the parser state (R31, `30_encoding.md` R79). -/
def State.pStateOut (s : State) : BitVec 2 := s.pstate.code

/-- `p_count`: the pair (`hdr_count`, `cursor`) (R31). -/
def State.pCountOut (s : State) : BitVec 2 × BitVec 8 := (s.hdrCount, s.cursor)

/-- `p_frame`: the frame buffer as a Frame record (R31). -/
def State.pFrameOut (s : State) : Frame := s.pFrame

/-- `r_err`: 0 when the operation succeeded (R78, R81); unspecified in a step without an operation (U8). -/
def Result.rErr (r : Result) : Option (BitVec 3) :=
  match r with
  | .none => Option.none
  | r =>
    match r.errorOf with
    | some e => some e.code
    | Option.none => some 0#3

/-- `r_status` (R80), used by P.BYTE. -/
def Result.rStatus : Result → Option (BitVec 2)
  | .status st => some st.code
  | _ => Option.none

/-- `r_byte`, used by CSUM. -/
def Result.rByte : Result → Option Byte
  | .byte b => some b
  | _ => Option.none

/-- `r_bool`: 1 = valid, used by VERIFY. -/
def Result.rBool : Result → Option (BitVec 1)
  | .verdict ok => some (BitVec.ofBool ok)
  | _ => Option.none

/-- `r_frame`, used by BUILD and DESER. -/
def Result.rFrame : Result → Option Frame
  | .frame f => some f
  | _ => Option.none

/-- `r_seq`, used by SER. -/
def Result.rSeq : Result → Option ByteSeq
  | .seq s => some s
  | _ => Option.none

/-- `r_seq_n`: the number of bytes on `r_seq`. -/
def Result.rSeqN : Result → Option (BitVec 16)
  | .seq s => some (BitVec.ofNat 16 s.length)
  | _ => Option.none

end Sys2Proof.Machine
end

