-- ==== Sys2Proof/Machine/Pseudo.lean ====
section
/-!
DEFINITION. Finite runs of operations (`70_reset_and_hazards.md` R213) and the pseudo-operations with their expansions
(`30_encoding.md` R83).
-/

namespace Sys2Proof.Machine

/-- Perform the operations in order; the state reached, and the result of each. -/
def trace : List Instr → State → Host.Outcome (State × List Result) Fault Refusal
  | [], s => .next (s, [])
  | i :: is, s =>
    match exec i s with
    | .next s' =>
      match trace is s' with
      | .next (t, rs) => .next (t, s'.result :: rs)
      | .fault r => .fault r
      | .refused r => .refused r
    | .fault r => .fault r
    | .refused r => .refused r

/-- `checksum_of(b1, ..., bn)` as one operation. -/
def checksumOf (s : ByteSeq) : List Instr := [.csum s]

/-- `checksum_of(b1, ..., bn)` by the accumulator: clear, then fold each byte. -/
def checksumOfByFold (s : ByteSeq) : List Instr := .csClr :: s.map .csFold

/-- `P.FEED s`, and `parse(b1, ..., bn)`: one P.BYTE per byte. -/
def feed (s : ByteSeq) : List Instr := s.map .pByte

/-- Perform `i`; if it returns a Frame, perform `next` on that Frame as well. The results of both. -/
def onFrame (i : Instr) (next : Frame → Instr) (s : State) : Host.Outcome (State × List Result) Fault Refusal :=
  match exec i s with
  | .next s' =>
    match s'.result with
    | .frame f => trace [i, next f] s
    | r => .next (s', [r])
  | .fault r => .fault r
  | .refused r => .refused r

/-- `ENCODE msg, id, len`: BUILD and, on success, SER of the frame built. -/
def encodeMessage (msg : ByteSeq) (ident : Byte) (reqLen : BitVec 16) (s : State) :
    Host.Outcome (State × List Result) Fault Refusal :=
  onFrame (.build msg ident reqLen) .ser s

/-- `DECODE buf`: DESER and, on success, VERIFY of the frame decoded. -/
def decodeBuffer (buf : ByteSeq) (s : State) : Host.Outcome (State × List Result) Fault Refusal :=
  onFrame (.deser buf) .verify s

end Sys2Proof.Machine
end

