-- ==== Sys2Proof/Safety.lean ====
section
/-!
DEFINITION. What counts as a safe state and a safe run, in the terms the statements use.
-/

namespace Sys2Proof.Machine

/-- The nine pieces of state the spec gives the machine (`10_state.md` R20): the state without the model's own fields. -/
def State.block (s : State) : State := { s with inputs := [], result := .none }

/-- The parser's part of the block: everything but `acc` (R20). -/
def State.parser (s : State) : State := { s.block with acc := 0x00#8 }

/-- The reachable states of the parser, `10_state.md` R33 (a) to (e). -/
abbrev State.Sequenced (s : State) : Prop :=
  (s.hdrCount = 0#2 ∨ s.hdrCount = 1#2 ∨ s.hdrCount = 2#2) ∧
  (s.pstate = .waitStart → s.hdrCount = 0#2 ∧ s.cursor = 0#8) ∧
  (s.pstate = .readHeader → (s.hdrCount = 1#2 ∨ s.hdrCount = 2#2) ∧ s.pfStartMarker = 0x55#8) ∧
  (s.pstate = .readPayload → s.hdrCount = 2#2 ∧ 1 ≤ s.pfLength.toNat ∧ s.cursor.toNat < s.pfLength.toNat) ∧
  (s.pstate = .verifyChecksum → s.hdrCount = 2#2 ∧ s.cursor = s.pfLength)

/-- The payload buffer is in its canonical form. -/
abbrev State.Canonical (s : State) : Prop := Memory.wf s.payload

/-- While the parser is past the length byte, every cell below the cursor has been written since power-up, by whatever
frame: it holds a byte and not its power-up value. -/
def State.Filled (s : State) : Prop :=
  s.pstate = .readPayload ∨ s.pstate = .verifyChecksum →
    ∀ i < s.cursor.toNat, (Memory.read s.payload i).isSome

/-- Two states that the current frame's bytes, the accumulator and the coming inputs do not tell apart: they agree on
everything but what the current frame has not written yet. Of the frame buffer they agree on the message id once it is
received, and on the length and the cells below the cursor past the length byte (`10_state.md` R32). -/
def State.SameFrameSoFar (s s' : State) : Prop :=
  s.inputs = s'.inputs ∧ s.acc = s'.acc ∧ s.pstate = s'.pstate ∧ s.hdrCount = s'.hdrCount ∧ s.cursor = s'.cursor ∧
  (s.hdrCount = 2#2 → s.pfMessageId = s'.pfMessageId) ∧
  (s.pstate = .readPayload ∨ s.pstate = .verifyChecksum →
    s.pfLength = s'.pfLength ∧ ∀ i < s.cursor.toNat, s.readCell i = s'.readCell i)

/-- A request the ports can express: a byte sequence that an operation uses has at most 65535 bytes (`00_scope.md`
R8). -/
def expressible (r : Inputs) : Bool :=
  r.op ≠ 2#4 && r.op ≠ 3#4 && r.op ≠ 6#4 || ByteSeq.fits r.aSeq

/-- The parser states in which P.BYTE has a meaning: those `42_parser.md` R151 does not list. -/
abbrev State.HasTransition (s : State) : Prop :=
  s.hdrCount ≠ 3#2 ∧ (s.pstate = .readHeader → s.hdrCount = 1#2 ∨ s.hdrCount = 2#2) ∧
  (s.pstate = .readPayload → s.cursor.toNat < s.pfLength.toNat)

/-- The operations of the parser; the others are those of CSA, ENC, DEC and VFY. -/
def isParserOp : Instr → Bool
  | .csClr => false
  | .csFold _ => false
  | .csum _ => false
  | .build _ _ _ => false
  | .verify _ => false
  | .ser _ => false
  | .deser _ => false
  | .pInit => true
  | .pByte _ => true
  | .pSync => true
  | .pSkip _ => true
  | .pId _ => true
  | .pLen _ => true
  | .pLen0 => true
  | .pPay _ => true
  | .pPayl _ => true
  | .pCsum _ => true

/-- The operations that read and write no state: `20_memory.md` R60. -/
def isPure : Instr → Bool
  | .csClr => false
  | .csFold _ => false
  | .csum _ => true
  | .build _ _ _ => true
  | .verify _ => true
  | .ser _ => true
  | .deser _ => true
  | .pInit => false
  | .pByte _ => false
  | .pSync => false
  | .pSkip _ => false
  | .pId _ => false
  | .pLen _ => false
  | .pLen0 => false
  | .pPay _ => false
  | .pPayl _ => false
  | .pCsum _ => false

/-- The byte an operation folds into the accumulator, if it is a CS.FOLD. -/
def foldByte : Instr → Option Byte
  | .csFold b => some b
  | _ => none

/-- The bytes of a frame on the wire, start marker first (`30_encoding.md` R70). -/
def wireBytes (ident : Byte) (payload : ByteSeq) (checksum : Byte) : ByteSeq :=
  [0x55#8, ident, BitVec.ofNat 8 payload.length] ++ payload ++ [checksum]

/-- The transitions that a whole frame takes (`42_parser.md` R152): P.SYNC, P.ID, then P.LEN0, or P.LEN, P.PAY for all
payload bytes but the last and P.PAYL for the last; then P.CSUM. -/
def frameRows (ident : Byte) (payload : ByteSeq) (checksum : Byte) : List Instr :=
  [.pSync, .pId ident] ++
    (match payload.getLast? with
      | none => [.pLen0]
      | some last => [.pLen (BitVec.ofNat 8 payload.length)] ++ payload.dropLast.map .pPay ++ [.pPayl last]) ++
    [.pCsum checksum]

/-- The statuses among the results of a run, in order. -/
def statusesOf (rs : List Result) : List Status :=
  rs.filterMap (fun r => match r with | .status st => some st | _ => none)

/-- The bytes the checksum of a frame depends on and the checksum itself, in wire order (`40_checksum.md` R107). -/
def coveredBytes (f : Frame) : ByteSeq := [f.messageId, f.length] ++ f.bytes ++ [f.checksum]

end Sys2Proof.Machine
end

