-- ==== Sys2Proof/Certificates/Slice0/Obligations.lean ====
section
/-!
DEFINITION. The statements for the provers. Each docstring names the rule of `spec/` it formalises, or says what is the
model's own in it. Where a statement speaks of a run, `Sys2Proof.Machine.trace` performs operations in order and lists
their results.
-/

open Sys2Proof Sys2Proof.Machine

/-! ### Reset, the request port and the step -/

/-- `10_state.md` R32, the values the spec gives for hardware reset; the reset state is a reachable state (R33) and its
payload buffer is canonical (the model's form of memory). -/
def Obligations.ResetStateHoldsSpecifiedValues : Prop :=
  State.reset.acc = 0x00#8 ∧ State.reset.pstate = .waitStart ∧ State.reset.hdrCount = 0#2 ∧
    State.reset.cursor = 0#8 ∧ State.reset.Sequenced ∧ State.reset.Canonical ∧ State.reset.Filled

/-- `70_reset_and_hazards.md` R200 and `60_exceptions.md` R178: a step with `rst` = 1 has the effects of CS.CLR and
P.INIT in place of any request, and does not write the frame buffer (a reset in a run: log entry 5). The queue of coming
inputs is the model's (log entry 1). -/
def Obligations.ResetInputWinsOverRequest : Prop :=
  ∀ (s : State) (r : Inputs) (rest : List Inputs), s.inputs = r :: rest → r.rst = true →
    step s = .next { s with inputs := rest, acc := 0x00#8, pstate := .waitStart, hdrCount := 0#2, cursor := 0#8,
                            result := .none }

/-- `30_encoding.md` R78: with `op_valid` = 0 nothing happens and no state changes. A host that drives nothing is the
model's empty queue (log entry 1). -/
def Obligations.NoRequestChangesNothing : Prop :=
  (∀ s : State, s.inputs = [] → step s = .next { s with result := .none }) ∧
  (∀ (s : State) (r : Inputs) (rest : List Inputs), s.inputs = r :: rest → r.rst = false → r.opValid = false →
    step s = .next { s with inputs := rest, result := .none })

/-- `30_encoding.md` R77 and `60_exceptions.md` R175. -/
def Obligations.ReservedCodeRaisesIllegalOp : Prop :=
  ∀ (s : State) (r : Inputs) (rest : List Inputs), s.inputs = r :: rest → r.rst = false → r.opValid = true →
    9 ≤ r.op.toNat →
    step s = .next { s with inputs := rest, result := .error .illegalOp } ∧
      ErrorCode.illegalOp.code = 5#3

/-- A step performs the decoded operation on the state from which the request has been taken. -/
def Obligations.StepRunsDecodedRequest : Prop :=
  ∀ (s : State) (r : Inputs) (rest : List Inputs) (i : Instr), s.inputs = r :: rest → r.rst = false →
    r.opValid = true → decode r = .ok i → i.WellFormed = true →
    step s = exec i { s with inputs := rest }

/-- Driving the block at its ports with the requests of a sequence of operations, one a step, reaches the state the
sequence of operations reaches. A transition row is driven as the request P.BYTE of its byte. -/
def Obligations.PortRunFollowsTrace : Prop :=
  ∀ (is : List Instr) (s t : State) (rest : List Inputs) (rs : List Result),
    (∀ i ∈ is, i.WellFormed = true) → trace is { s with inputs := rest } = .next (t, rs) →
    Host.Core.run Sys2Proof.core is.length { s with inputs := is.map (fun i => (encode i).inputs) ++ rest } = .next t

/-! ### Encoding -/

/-- Decoding the encoding of a well-formed instruction gives it back, every operand at every value. -/
def Obligations.DecodeInvertsEncode : Prop :=
  ∀ i : Instr, i.WellFormed = true → decodeEncoded (encode i) = .ok i

/-- The other direction: an accepted request is well-formed, and its encoding has the same code, is a request for an
operation (`op_valid` = 1, `rst` = 0) and decodes to the same operation. -/
def Obligations.EncodeInvertsDecode : Prop :=
  ∀ (r : Inputs) (i : Instr), decode r = .ok i →
    i.WellFormed = true ∧
      ∃ r' : Inputs, encode i = .request r' ∧ r'.op = r.op ∧ r'.rst = false ∧ r'.opValid = true ∧ decode r' = .ok i

/-- Words of `opcode_table.json` written out bit by bit: the nine codes of `30_encoding.md` R76 with every operand port
zero, two reserved codes (R77), and words of R84's patterns. The words of P.SYNC, P.SKIP and P.CSUM are no other row's.
The word of P.LEN0 is also P.ID's with the byte 0x00: that it is read as P.LEN0 is the MODEL's choice (log entry 7).
The last two clauses give that word's parser state and byte with the rest of the key, and there R84 itself decides. -/
def Obligations.SpecWordsDecode : Prop :=
  decodeTableWord 8 0b0000 = some .csClr ∧ decodeTableWord 8 0b0001 = some (.csFold 0) ∧
    decodeTableWord 8 0b0010 = some (.csum []) ∧ decodeTableWord 8 0b0011 = some (.build [] 0 0) ∧
    decodeTableWord 8 0b0100 = some (.verify Frame.zero) ∧ decodeTableWord 8 0b0101 = some (.ser Frame.zero) ∧
    decodeTableWord 8 0b0110 = some (.deser []) ∧ decodeTableWord 8 0b0111 = some .pInit ∧
    decodeTableWord 8 0b1000 = some (.pByte 0) ∧ decodeTableWord 8 0b1001 = none ∧ decodeTableWord 8 0b1111 = none ∧
    decodeTableWord 16 0b10000001010101 = some .pSync ∧
    decodeTableWord 16 0b10000010101011 = some (.pSkip 0xAB) ∧
    decodeTableWord 16 0b10000100000000 = some .pLen0 ∧
    decodeTableWord 16 0b10001100100100 = some (.pCsum 0x24) ∧
    (∀ k : Key, k.pstate = .readHeader → k.hdrCount = 1#2 → decodeKey k 0x00#8 = .ok (.pId 0x00#8)) ∧
    (∀ k : Key, k.pstate = .readHeader → k.hdrCount = 2#2 → decodeKey k 0x00#8 = .ok .pLen0)

/-- `30_encoding.md` R84: "The table is complete and exclusive for every reachable state (`10_state.md` rule R33):
exactly one row matches"; and the row that matches is the one the case analysis of `42_parser.md` R141 selects. -/
def Obligations.TransitionRowsCompleteAndExclusive : Prop :=
  ∀ (s : State) (b : Byte), s.Sequenced →
    ∃ t : Transition, t.RowMatches s.key b ∧ (∀ t' : Transition, t'.RowMatches s.key b → t' = t) ∧
      transitionOf s.key b = some t

/-- `30_encoding.md` R79, R80, R81: the codes of the states, the statuses and the errors, and the ports that carry
them. `Result.none` is a step without an operation, in which the result ports are unspecified (R78, U8). -/
def Obligations.CodesOfStatesStatusesErrors : Prop :=
  (PState.waitStart.code = 0b00#2 ∧ PState.readHeader.code = 0b01#2 ∧ PState.readPayload.code = 0b10#2 ∧
    PState.verifyChecksum.code = 0b11#2 ∧ ∀ s : State, s.pStateOut = s.pstate.code) ∧
  (Status.incomplete.code = 0b00#2 ∧ Status.frameValid.code = 0b01#2 ∧ Status.frameCorrupted.code = 0b10#2 ∧
    (∀ st : Status, (Result.status st).rStatus = some st.code) ∧ ∀ r : Result, r.rStatus ≠ some 0b11#2) ∧
  (ErrorCode.checksumMismatch.code = 1#3 ∧ ErrorCode.truncatedInput.code = 2#3 ∧
    ErrorCode.oversizedPayload.code = 3#3 ∧ ErrorCode.messageTooShort.code = 4#3 ∧ ErrorCode.illegalOp.code = 5#3 ∧
    (∀ r : Result, r ≠ .none → r.errorOf = none → r.rErr = some 0#3) ∧
    (∀ (r : Result) (e : ErrorCode), r ≠ .none → r.errorOf = some e → r.rErr = some e.code) ∧
    ∀ r : Result, r.rErr ≠ some 6#3 ∧ r.rErr ≠ some 7#3)

/-! ### The checksum unit -/

/-- `40_checksum.md` R100: the fold, and each bit of it is the parity of that bit over all the bytes. -/
def Obligations.XorfoldBitIsParity : Prop :=
  (∀ s : ByteSeq, xorfold s = s.foldl (fun a b => a ^^^ b) 0x00#8) ∧
  (∀ (s : ByteSeq) (k : Nat), (xorfold s).getLsbD k = decide (s.countP (fun b => b.getLsbD k) % 2 = 1))

/-- `40_checksum.md` R101 (1) to (4). -/
def Obligations.XorfoldLaws : Prop :=
  (∀ a : Byte, a ^^^ 0x00#8 = a ∧ a ^^^ a = 0x00#8) ∧ (∀ a b : Byte, a ^^^ b = b ^^^ a) ∧
  (∀ a b c : Byte, (a ^^^ b) ^^^ c = a ^^^ (b ^^^ c)) ∧
  (∀ s t : ByteSeq, xorfold (s ++ t) = xorfold s ^^^ xorfold t) ∧
  (∀ s t : ByteSeq, s.Perm t → xorfold s = xorfold t)

/-- `40_checksum.md` R102. Nothing but `acc` changes, and the operation has no result and no error. -/
def Obligations.CsClrClearsAccumulator : Prop :=
  (∀ s : State, exec .csClr s = .next { s with acc := 0x00#8, result := .done }) ∧
  (∀ r : Inputs, r.op = 0b0000#4 → decode r = .ok .csClr) ∧ Result.done.errorOf = none

/-- `40_checksum.md` R103. -/
def Obligations.CsFoldXorsByte : Prop :=
  (∀ (s : State) (b : Byte), exec (.csFold b) s = .next { s with acc := s.acc ^^^ b, result := .done }) ∧
  (∀ r : Inputs, r.op = 0b0001#4 → decode r = .ok (.csFold r.aByte)) ∧ Result.done.errorOf = none

/-- `40_checksum.md` R104: the fold of the operand, with no state read or written. -/
def Obligations.CsumAnswersFold : Prop :=
  (∀ (s : State) (q : ByteSeq),
    exec (.csum q) s = .next { s with result := .byte (q.foldl (fun a b => a ^^^ b) 0x00#8) }) ∧
  (∀ r : Inputs, r.op = 0b0010#4 → r.aSeq.length ≤ 65535 → decode r = .ok (.csum r.aSeq)) ∧
  (∀ b : Byte, (Result.byte b).errorOf = none)

/-- `40_checksum.md` R105: clear and fold computes the checksum; in any run without CS.CLR, whatever operations of the
other units stand between the folds, the accumulator moves by the fold of the folded bytes. -/
def Obligations.AccumulatorFollowsFolds : Prop :=
  (∀ (q : ByteSeq) (s : State),
    trace (checksumOfByFold q) s =
      .next ({ s with acc := xorfold q, result := .done }, List.replicate (q.length + 1) .done)) ∧
  (∀ (ops : List Instr) (s t : State) (rs : List Result), Instr.csClr ∉ ops → trace ops s = .next (t, rs) →
    t.acc = s.acc ^^^ xorfold (ops.filterMap foldByte))

/-- `40_checksum.md` R105, the consequence: the streaming check by the accumulator, with the checksum compared or folded
in, gives the verdict of VERIFY. -/
def Obligations.StreamCheckAgreesWithVerify : Prop :=
  ∀ (f : Frame) (s t u : State) (rs qs : List Result),
    trace (checksumOfByFold ([f.messageId, f.length] ++ f.payload.toList.take f.length.toNat)) s = .next (t, rs) →
    trace (checksumOfByFold ([f.messageId, f.length] ++ f.payload.toList.take f.length.toNat ++ [f.checksum])) s =
      .next (u, qs) →
    exec (.verify f) s = .next { s with result := .verdict (t.acc == f.checksum) } ∧
    exec (.verify f) s = .next { s with result := .verdict (u.acc == 0x00#8) }

/-! ### The codec -/

/-- `41_codec.md` R115 where both checks pass, and its operands on their ports. The cells at and above `req_len` are
left unsaid (D12: claims must not mention them). -/
def Obligations.BuildAnswersFrame : Prop :=
  (∀ (s : State) (msg : ByteSeq) (ident : Byte) (n : BitVec 16), n.toNat ≤ 255 → n.toNat ≤ msg.length →
    ∃ f : Frame, exec (.build msg ident n) s = .next { s with result := .frame f } ∧
      f.startMarker = 0x55#8 ∧ f.messageId = ident ∧ f.length.toNat = n.toNat ∧
      (∀ i, i < n.toNat → f.payload[i]? = msg[i]?) ∧
      f.checksum = (ident :: f.length :: msg.take n.toNat).foldl (fun a b => a ^^^ b) 0x00#8) ∧
  (∀ r : Inputs, r.op = 0b0011#4 → r.aSeq.length ≤ 65535 → decode r = .ok (.build r.aSeq r.aId r.aLen))

/-- `41_codec.md` R116 and R117, and their order (`60_exceptions.md` R178): an oversized request is reported as such
whatever the message; otherwise a short message is. No state is written. -/
def Obligations.BuildRejectsOversizedThenShort : Prop :=
  (∀ (s : State) (msg : ByteSeq) (ident : Byte) (n : BitVec 16), 255 < n.toNat →
    exec (.build msg ident n) s = .next { s with result := .error .oversizedPayload }) ∧
  (∀ (s : State) (msg : ByteSeq) (ident : Byte) (n : BitVec 16), n.toNat ≤ 255 → msg.length < n.toNat →
    exec (.build msg ident n) s = .next { s with result := .error .messageTooShort })

/-- `41_codec.md` R118 (b) and (d): what BUILD returns verifies, and BUILD returns the same in every state. -/
def Obligations.BuiltFrameVerifies : Prop :=
  ∀ (s s' : State) (msg : ByteSeq) (ident : Byte) (n : BitVec 16) (f : Frame),
    exec (.build msg ident n) s = .next { s with result := .frame f } →
    exec (.build msg ident n) s' = .next { s' with result := .frame f } ∧
      exec (.verify f) s' = .next { s' with result := .verdict true }

/-- `41_codec.md` R121: the verdict, and the error that goes with it. -/
def Obligations.VerifyComparesChecksum : Prop :=
  (∀ (s : State) (f : Frame),
    exec (.verify f) s = .next { s with result := .verdict (decide (f.checksum =
      ([f.messageId, f.length] ++ f.payload.toList.take f.length.toNat).foldl (fun a b => a ^^^ b) 0x00#8)) }) ∧
  (∀ r : Inputs, r.op = 0b0100#4 → decode r = .ok (.verify r.aFrame)) ∧
  (Result.verdict true).errorOf = none ∧ (Result.verdict false).errorOf = some .checksumMismatch ∧
  (Result.verdict true).rBool = some 1#1 ∧ (Result.verdict false).rBool = some 0#1

/-- `41_codec.md` R121, what VERIFY reads: two frames that agree on message_id, length, checksum and the payload cells
below the length get the same verdict, whatever their start markers and other cells. -/
def Obligations.VerifyReadsNothingElse : Prop :=
  ∀ (s : State) (f g : Frame), f.messageId = g.messageId → f.length = g.length → f.checksum = g.checksum →
    (∀ i, i < f.length.toNat → f.payload[i]? = g.payload[i]?) →
    ∃ ok : Bool, exec (.verify f) s = .next { s with result := .verdict ok } ∧
      exec (.verify g) s = .next { s with result := .verdict ok }

/-- `41_codec.md` R125: the fields in wire order, `4 + length` of them, nothing checked. -/
def Obligations.SerEmitsWireOrder : Prop :=
  (∀ (s : State) (f : Frame), ∃ w : ByteSeq, exec (.ser f) s = .next { s with result := .seq w } ∧
    w = [f.startMarker, f.messageId, f.length] ++ f.payload.toList.take f.length.toNat ++ [f.checksum] ∧
    w.length = 4 + f.length.toNat ∧ (Result.seq w).rSeqN = some (4#16 + f.length.zeroExtend 16) ∧
    (Result.seq w).errorOf = none) ∧
  (∀ r : Inputs, r.op = 0b0101#4 → decode r = .ok (.ser r.aFrame))

/-- `41_codec.md` R128 on a complete buffer, and its operand on its port; trailing bytes are ignored and the first byte
is not tested. The cells at and above the length are left unsaid (D12). -/
def Obligations.DeserDecodesCompleteBuffer : Prop :=
  (∀ (s : State) (buf : ByteSeq) (len : Byte), buf[2]? = some len → 4 + len.toNat ≤ buf.length →
    ∃ f : Frame, exec (.deser buf) s = .next { s with result := .frame f } ∧
      some f.startMarker = buf[0]? ∧ some f.messageId = buf[1]? ∧ f.length = len ∧
      (∀ i, i < len.toNat → f.payload[i]? = buf[3 + i]?) ∧ some f.checksum = buf[3 + len.toNat]?) ∧
  (∀ r : Inputs, r.op = 0b0110#4 → r.aSeq.length ≤ 65535 → decode r = .ok (.deser r.aSeq))

/-- `41_codec.md` R129. No state is written. -/
def Obligations.DeserRejectsTruncatedBuffer : Prop :=
  (∀ (s : State) (buf : ByteSeq), buf.length < 3 →
    exec (.deser buf) s = .next { s with result := .error .truncatedInput }) ∧
  (∀ (s : State) (buf : ByteSeq) (len : Byte), buf[2]? = some len → buf.length < 4 + len.toNat →
    exec (.deser buf) s = .next { s with result := .error .truncatedInput })

/-- `41_codec.md` R131, first two laws: DESER undoes SER up to equality as frames (`00_scope.md` R9), and SER undoes
DESER up to the bytes after the frame. -/
def Obligations.SerAndDeserAreInverse : Prop :=
  (∀ (s : State) (f : Frame), ∃ (w : ByteSeq) (g : Frame),
    exec (.ser f) s = .next { s with result := .seq w } ∧ exec (.deser w) s = .next { s with result := .frame g } ∧
      g.sameAs f) ∧
  (∀ (s : State) (buf : ByteSeq) (f : Frame), exec (.deser buf) s = .next { s with result := .frame f } →
    exec (.ser f) s = .next { s with result := .seq (buf.take (4 + f.length.toNat)) })

/-- `41_codec.md` R131, third law: `DECODE(ENCODE(msg, id, n))` yields the message back with the verdict true. -/
def Obligations.MessageSurvivesEncodeDecode : Prop :=
  ∀ (s : State) (msg : ByteSeq) (ident : Byte) (n : BitVec 16), n.toNat ≤ 255 → n.toNat ≤ msg.length →
    ∃ (f g : Frame) (w : ByteSeq),
      encodeMessage msg ident n s = .next ({ s with result := .seq w }, [.frame f, .seq w]) ∧
      decodeBuffer w s = .next ({ s with result := .verdict true }, [.frame g, .verdict true]) ∧
      g.messageId = ident ∧ g.length.toNat = n.toNat ∧ g.payload.toList.take n.toNat = msg.take n.toNat

/-- `41_codec.md` R131, last law: changing one byte of an encoded message that is neither the start marker nor the
length makes the verdict false. -/
def Obligations.OneByteChangeIsRejected : Prop :=
  ∀ (s u : State) (msg : ByteSeq) (ident : Byte) (n : BitVec 16) (f : Frame) (w : ByteSeq) (j : Nat) (b : Byte),
    encodeMessage msg ident n s = .next (u, [.frame f, .seq w]) → j < w.length → j ≠ 0 → j ≠ 2 → w[j]? ≠ some b →
    ∃ g : Frame, decodeBuffer (w.set j b) s = .next ({ s with result := .verdict false }, [.frame g, .verdict false])

/-- `40_checksum.md` R107: for a change that keeps the length, the exact condition of detection; a change of the start
marker is never detected; a single-bit change of the length can pass. -/
def Obligations.DetectionIsBitParity : Prop :=
  (∀ (s : State) (f g : Frame), exec (.verify f) s = .next { s with result := .verdict true } →
    g.length = f.length →
    (exec (.verify g) s = .next { s with result := .verdict false } ↔
      ∃ k, k < 8 ∧
        ((coveredBytes f).zip (coveredBytes g)).countP (fun p => p.1.getLsbD k != p.2.getLsbD k) % 2 = 1)) ∧
  (∀ (s : State) (f : Frame) (m : Byte), exec (.verify f) s = .next { s with result := .verdict true } →
    exec (.verify { f with startMarker := m }) s = .next { s with result := .verdict true }) ∧
  (∃ f : Frame, ∀ s : State, exec (.verify f) s = .next { s with result := .verdict true } ∧
    exec (.verify { f with length := f.length ^^^ 0x01#8 }) s = .next { s with result := .verdict true })

/-! ### The parser -/

/-- `42_parser.md` R140, in every state. -/
def Obligations.PInitRearmsParser : Prop :=
  (∀ s : State, exec .pInit s =
    .next { s with pstate := .waitStart, hdrCount := 0#2, cursor := 0#8, result := .done }) ∧
  (∀ r : Inputs, r.op = 0b0111#4 → decode r = .ok .pInit) ∧ Result.done.errorOf = none

/-- `42_parser.md` R141: in a state with a meaning, P.BYTE performs exactly one transition, the one whose row matches,
and answers a status with the error code that goes with it. -/
def Obligations.PByteTakesTheMatchingRow : Prop :=
  (∀ (s : State) (b : Byte), s.HasTransition →
    ∃ (t : Transition) (u : State) (st : Status),
      t.RowMatches s.key b ∧ (∀ t' : Transition, t'.RowMatches s.key b → t' = t) ∧
      exec (.pByte b) s = .next u ∧ exec (t.toInstr b) s = .next u ∧
      u.result = .status st ∧
      u.result.errorOf = (if st = .frameCorrupted then some .checksumMismatch else none)) ∧
  (∀ r : Inputs, r.op = 0b1000#4 → decode r = .ok (.pByte r.aByte))

/-- `42_parser.md` R151: P.BYTE is a fault naming the state in the three combinations with no meaning, and in no other
state; a reachable state is none of them; P.INIT and hardware reset lead back to a reachable state. That the fault
carries the whole sequencing key is the MODEL's (log entry 8). -/
def Obligations.PByteFaultsWithoutMeaning : Prop :=
  (∀ (s : State) (b : Byte),
    (s.hdrCount = 3#2 ∨ (s.pstate = .readHeader ∧ s.hdrCount ≠ 1#2 ∧ s.hdrCount ≠ 2#2) ∨
      (s.pstate = .readPayload ∧ s.pfLength.toNat ≤ s.cursor.toNat)) →
    exec (.pByte b) s = .fault (.noTransition s.key)) ∧
  (∀ (s : State) (b : Byte) (f : Fault), exec (.pByte b) s = .fault f →
    s.hdrCount = 3#2 ∨ (s.pstate = .readHeader ∧ s.hdrCount ≠ 1#2 ∧ s.hdrCount ≠ 2#2) ∨
      (s.pstate = .readPayload ∧ s.pfLength.toNat ≤ s.cursor.toNat)) ∧
  (∀ s : State, s.Sequenced → s.HasTransition) ∧
  (∀ s : State, ∃ t, exec .pInit s = .next t ∧ t.Sequenced) ∧
  (∀ (s : State) (r : Inputs), s.inputs.head? = some r → r.rst = true → ∃ t, step s = .next t ∧ t.Sequenced)

/-- `42_parser.md` R142. With `hdr_count` = 3 the state has no meaning (R151). -/
def Obligations.PSyncFindsSentinel : Prop :=
  ∀ s : State, s.pstate = .waitStart → s.hdrCount ≠ 3#2 →
    ∃ t : State,
      t = { s with pfStartMarker := 0x55#8, hdrCount := 1#2, pstate := .readHeader, result := .status .incomplete } ∧
      exec (.pByte 0x55#8) s = .next t ∧ exec .pSync s = .next t

/-- `42_parser.md` R143. With `hdr_count` = 3 the state has no meaning (R151). -/
def Obligations.PSkipDropsStrayByte : Prop :=
  ∀ (s : State) (b : Byte), s.pstate = .waitStart → s.hdrCount ≠ 3#2 → b ≠ 0x55#8 →
    ∃ t : State, t = { s with result := .status .incomplete } ∧
      exec (.pByte b) s = .next t ∧ exec (.pSkip b) s = .next t

/-- `42_parser.md` R144. -/
def Obligations.PIdStoresMessageId : Prop :=
  ∀ (s : State) (b : Byte), s.pstate = .readHeader → s.hdrCount = 1#2 →
    ∃ t : State, t = { s with pfMessageId := b, hdrCount := 2#2, result := .status .incomplete } ∧
      exec (.pByte b) s = .next t ∧ exec (.pId b) s = .next t

/-- `42_parser.md` R145. -/
def Obligations.PLenStartsPayload : Prop :=
  ∀ (s : State) (b : Byte), s.pstate = .readHeader → s.hdrCount = 2#2 → b ≠ 0x00#8 →
    ∃ t : State, t = { s with pfLength := b, cursor := 0#8, pstate := .readPayload, result := .status .incomplete } ∧
      exec (.pByte b) s = .next t ∧ exec (.pLen b) s = .next t

/-- `42_parser.md` R146. -/
def Obligations.PLen0GoesToChecksum : Prop :=
  ∀ s : State, s.pstate = .readHeader → s.hdrCount = 2#2 →
    ∃ t : State,
      t = { s with pfLength := 0x00#8, cursor := 0#8, pstate := .verifyChecksum, result := .status .incomplete } ∧
      exec (.pByte 0x00#8) s = .next t ∧ exec .pLen0 s = .next t

/-- `42_parser.md` R147: the byte goes to the cell at the cursor and to no other, and the cursor moves on by one. With
`hdr_count` = 3 the state has no meaning (R151). -/
def Obligations.PPayStoresPayloadByte : Prop :=
  ∀ (s : State) (b : Byte), s.pstate = .readPayload → s.hdrCount ≠ 3#2 → s.cursor.toNat + 1 < s.pfLength.toNat →
    ∃ t : State, exec (.pByte b) s = .next t ∧ exec (.pPay b) s = .next t ∧
      t = { s with payload := t.payload, cursor := s.cursor + 1#8, result := .status .incomplete } ∧
      t.cursor.toNat = s.cursor.toNat + 1 ∧
      t.readCell s.cursor.toNat = b ∧ (∀ i, i ≠ s.cursor.toNat → t.readCell i = s.readCell i)

/-- `42_parser.md` R148: as R147, and the state changes in the step of the last payload byte. With `hdr_count` = 3 the
state has no meaning (R151). -/
def Obligations.PPaylStoresLastByte : Prop :=
  ∀ (s : State) (b : Byte), s.pstate = .readPayload → s.hdrCount ≠ 3#2 → s.cursor.toNat + 1 = s.pfLength.toNat →
    ∃ t : State, exec (.pByte b) s = .next t ∧ exec (.pPayl b) s = .next t ∧
      t = { s with payload := t.payload, cursor := s.pfLength, pstate := .verifyChecksum,
                   result := .status .incomplete } ∧
      t.readCell s.cursor.toNat = b ∧ (∀ i, i ≠ s.cursor.toNat → t.readCell i = s.readCell i)

/-- `42_parser.md` R149: the checksum is stored, the frame buffer with it is verified, the sequencing registers are
re-armed whatever the verdict, the frame buffer is kept. With `hdr_count` = 3 the state has no meaning (R151). -/
def Obligations.PCsumCompletesFrame : Prop :=
  (∀ (s : State) (b : Byte), s.pstate = .verifyChecksum → s.hdrCount ≠ 3#2 →
    ∃ t : State,
      t = { s with pfChecksum := b, pstate := .waitStart, hdrCount := 0#2, cursor := 0#8,
                   result := .status
                     (if ([s.pfMessageId, s.pfLength] ++ (List.range s.pfLength.toNat).map s.readCell).foldl
                          (fun a c => a ^^^ c) 0x00#8 = b then .frameValid else .frameCorrupted) } ∧
      exec (.pByte b) s = .next t ∧ exec (.pCsum b) s = .next t) ∧
  (Result.status .frameValid).errorOf = none ∧
  (Result.status .frameCorrupted).errorOf = some .checksumMismatch

/-- The MODEL's choice (log entry 6): a row of the transition table, with a byte its pattern admits, is refused in a
state whose key selects another row. The spec lists the rows as cases of P.BYTE (`30_encoding.md` R84). -/
def Obligations.RowsRefuseWhereAnotherIsSelected : Prop :=
  ∀ (s : State) (b : Byte) (t t' : Transition), s.HasTransition → t'.RowMatches s.key b → t ≠ t' →
    (t = .sync → b = 0x55#8) → (t = .len0 → b = 0x00#8) →
    exec (t.toInstr b) s = .refused (.otherTransition t t')

/-! ### Invariants -/

/-- `10_state.md` R33, the step: a reachable state's next state is a reachable state; for every operation, and for
every step with whatever inputs. -/
def Obligations.StepKeepsSequenced : Prop :=
  (∀ (i : Instr) (s t : State), s.Sequenced → exec i s = .next t → t.Sequenced) ∧
  (∀ s t : State, s.Sequenced → step s = .next t → t.Sequenced)

/-- `10_state.md` R33: from hardware reset or P.INIT, whatever inputs the host drives, every state reached satisfies
(a) to (e). -/
def Obligations.ReachedStatesAreSequenced : Prop :=
  (∀ (rs : List Inputs) (n : Nat) (t : State),
    Host.Core.run Sys2Proof.core n { State.reset with inputs := rs } = .next t → t.Sequenced) ∧
  (∀ (s s0 : State) (rs : List Inputs) (n : Nat) (t : State), exec .pInit s = .next s0 →
    Host.Core.run Sys2Proof.core n { s0 with inputs := rs } = .next t → t.Sequenced)

/-- The model's memory stays in its one canonical form, with every listed index a cell of the buffer (`20_memory.md`
R50). -/
def Obligations.StepKeepsCanonicalPayload : Prop :=
  (∀ (i : Instr) (s t : State), s.Canonical → exec i s = .next t → t.Canonical) ∧
  (∀ s t : State, s.Canonical → step s = .next t → t.Canonical)

/-- Past the length byte, every cell below the cursor has been written since power-up (`10_state.md` R32, R33). By which
frame the state does not record: that the current frame wrote it is what `UnspecifiedFrameBufferNeverReachesResults`
says of runs. -/
def Obligations.StepKeepsWrittenCells : Prop :=
  ∀ s t : State, s.Sequenced → s.Filled → step s = .next t → t.Sequenced ∧ t.Filled

/-- `20_memory.md` R50: MemRead after MemWrite, at the written cell and at every other, in every state. -/
def Obligations.CellReadAfterWrite : Prop :=
  ∀ (s : State) (i : BitVec 8) (v : Byte) (j : Nat),
    (s.writeCell i v).readCell j = (if j = i.toNat then v else s.readCell j)

/-- `42_parser.md` R150 and `20_memory.md` R55, in every state: a step changes at most one cell of the payload buffer,
the one at the cursor, in READ_PAYLOAD, below `pf.length`, so at index 254 at most. -/
def Obligations.PayloadWritesStayBelowLength : Prop :=
  ∀ (s t : State) (i : Nat), step s = .next t → t.readCell i ≠ s.readCell i →
    s.pstate = .readPayload ∧ i = s.cursor.toNat ∧ i < s.pfLength.toNat ∧ i ≤ 254

/-- `42_parser.md` R158: from a reachable state no counter overflows. -/
def Obligations.CountersDoNotWrap : Prop :=
  ∀ s t : State, s.Sequenced → step s = .next t →
    (t.cursor = s.cursor ∨ t.cursor = 0#8 ∨
      (t.cursor.toNat = s.cursor.toNat + 1 ∧ s.cursor.toNat < s.pfLength.toNat)) ∧
    t.cursor.toNat ≤ 255 ∧ (t.hdrCount = 0#2 ∨ t.hdrCount = 1#2 ∨ t.hdrCount = 2#2)

/-- `10_state.md` R32, "the unspecified values never reach a status": in a reachable state the verdict is computed from
bytes that have been written, whatever the cells held at power-up. -/
def Obligations.VerdictReadsWrittenCellsOnly : Prop :=
  ∀ (s : State) (b : Byte), s.Sequenced → s.Filled → s.pstate = .verifyChecksum →
    ∃ (p : ByteSeq) (t : State), p.length = s.pfLength.toNat ∧
      (∀ i, i < s.pfLength.toNat → Memory.read s.payload i = p[i]?) ∧
      exec (.pByte b) s = .next t ∧
      t.result = .status (if xorfold ([s.pfMessageId, s.pfLength] ++ p) = b then .frameValid else .frameCorrupted)

/-! ### Independence of the units, errors, liveness -/

/-- `42_parser.md` R157, `10_state.md` R21, `20_memory.md` R60: the parser's operations neither read nor write `acc`;
the other operations neither read nor write the parser, and the accumulator they leave and the result they answer depend
on `acc` alone; of these the pure operations (R60) read no state and write none. None depends on the model's own
fields. -/
def Obligations.UnitsAreIndependent : Prop :=
  (∀ (i : Instr) (s s' t : State), isParserOp i = true → s.parser = s'.parser → exec i s = .next t →
    ∃ t', exec i s' = .next t' ∧ t'.parser = t.parser ∧ t'.result = t.result ∧ t.acc = s.acc ∧ t'.acc = s'.acc) ∧
  (∀ (i : Instr) (s s' : State), isParserOp i = false → s.acc = s'.acc →
    ∃ t t', exec i s = .next t ∧ exec i s' = .next t' ∧ t.parser = s.parser ∧ t'.parser = s'.parser ∧
      t.acc = t'.acc ∧ t.result = t'.result) ∧
  (∀ (i : Instr) (s s' : State), isPure i = true →
    ∃ t t', exec i s = .next t ∧ exec i s' = .next t' ∧ t.result = t'.result ∧ t.block = s.block ∧ t'.block = s'.block)

/-- `60_exceptions.md` R170 and R178 with its table: which operation can return which error, and that an error of a
stateless operation writes no state. -/
def Obligations.ErrorsOfEachOperation : Prop :=
  ∀ (i : Instr) (s t : State) (e : ErrorCode), exec i s = .next t → t.result.errorOf = some e →
    (∃ msg ident n, i = .build msg ident n ∧ (e = .oversizedPayload ∨ e = .messageTooShort) ∧ t.block = s.block) ∨
    (∃ f, i = .verify f ∧ e = .checksumMismatch ∧ t.block = s.block) ∨
    (∃ buf, i = .deser buf ∧ e = .truncatedInput ∧ t.block = s.block) ∨
    (∃ b, (i = .pByte b ∨ i = .pCsum b) ∧ e = .checksumMismatch ∧ s.pstate = .verifyChecksum ∧
      t.result = .status .frameCorrupted ∧ t.pstate = .waitStart ∧ t.hdrCount = 0#2 ∧ t.cursor = 0#8)

/-- `60_exceptions.md` R181: from every reachable state every request the ports can express is accepted and completes in
its step, for as long as the host drives any. -/
def Obligations.BlockNeverHalts : Prop :=
  ∀ (s : State) (n : Nat), s.Sequenced → (∀ r ∈ s.inputs, expressible r = true) →
    ∃ t, Host.Core.run Sys2Proof.core n s = .next t

/-! ### Whole frames -/

/-- `42_parser.md` R152: the statuses, the transitions and the state after the bytes of one whole frame, and the same
whatever operations of the other units stand between the bytes. -/
def Obligations.WholeFrameGivesItsVerdict : Prop :=
  ∀ (s : State) (ident c : Byte) (p : ByteSeq), s.pstate = .waitStart → s.hdrCount ≠ 3#2 → p.length ≤ 255 →
    ∃ (t : State) (st : Status),
      trace (feed (wireBytes ident p c)) s =
        .next (t, List.replicate (3 + p.length) (.status .incomplete) ++ [.status st]) ∧
      trace (frameRows ident p c) s =
        .next (t, List.replicate (3 + p.length) (.status .incomplete) ++ [.status st]) ∧
      (feed (wireBytes ident p c)).length = 4 + p.length ∧
      st = (if c = ([ident, BitVec.ofNat 8 p.length] ++ p).foldl (fun a b => a ^^^ b) 0x00#8 then .frameValid
            else .frameCorrupted) ∧
      t.pstate = .waitStart ∧ t.hdrCount = 0#2 ∧ t.cursor = 0#8 ∧ t.acc = s.acc ∧
      t.pfStartMarker = 0x55#8 ∧ t.pfMessageId = ident ∧ t.pfLength.toNat = p.length ∧ t.pfChecksum = c ∧
      (∀ i, i < p.length → some (t.readCell i) = p[i]?) ∧
      (∀ (ops : List Instr), ops.filter isParserOp = feed (wireBytes ident p c) →
        ∃ (t' : State) (rs : List Result), trace ops s = .next (t', rs) ∧ t'.parser = t.parser ∧
          statusesOf rs = List.replicate (3 + p.length) .incomplete ++ [st])

/-- `41_codec.md` R132: fed the serialised bytes of a frame with the right start marker, the parser gives the verdict of
VERIFY and shows the same frame. -/
def Obligations.ParserAgreesWithDirectPath : Prop :=
  ∀ (s : State) (f : Frame), f.startMarker = 0x55#8 → s.pstate = .waitStart → s.hdrCount ≠ 3#2 →
    ∃ (w : ByteSeq) (t : State) (ok : Bool),
      exec (.ser f) s = .next { s with result := .seq w } ∧
      exec (.verify f) s = .next { s with result := .verdict ok } ∧
      trace (feed w) s =
        .next (t, List.replicate (3 + f.length.toNat) (.status .incomplete) ++
          [.status (if ok then .frameValid else .frameCorrupted)]) ∧
      t.pFrame.sameAs f ∧ t.pstate = .waitStart

/-- `42_parser.md` R155: with the stored length byte `n` the parser consumes exactly `n + 1` further bytes, whatever
they are, then gives a verdict and scans again. -/
def Obligations.LengthByteFixesConsumption : Prop :=
  ∀ (s : State) (n : Byte) (d : ByteSeq), s.pstate = .readHeader → s.hdrCount = 2#2 → d.length = n.toNat + 1 →
    ∃ (t : State) (st : Status),
      trace (feed (n :: d)) s = .next (t, List.replicate (n.toNat + 1) (.status .incomplete) ++ [.status st]) ∧
      st ≠ .incomplete ∧ t.pstate = .waitStart ∧ t.pfLength = n ∧ t.pfMessageId = s.pfMessageId

/-- `30_encoding.md` R74, `70_reset_and_hazards.md` R209: bytes that are not the sentinel are dropped while the parser
waits for a start, however many; nothing but the status answers. -/
def Obligations.StrayBytesAreSkipped : Prop :=
  ∀ (s : State) (q : ByteSeq), s.pstate = .waitStart → s.hdrCount ≠ 3#2 → 0x55#8 ∉ q →
    ∃ t : State, trace (feed q) s = .next (t, List.replicate q.length (.status .incomplete)) ∧ t.block = s.block

/-- `70_reset_and_hazards.md` R206: a frame that stops before its last byte is never reported; the parser stays inside
it. -/
def Obligations.TruncatedFrameStaysIncomplete : Prop :=
  ∀ (s : State) (ident c : Byte) (p : ByteSeq) (k : Nat), s.pstate = .waitStart → s.hdrCount ≠ 3#2 → p.length ≤ 255 →
    0 < k → k < 4 + p.length →
    ∃ t : State, trace (feed ((wireBytes ident p c).take k)) s = .next (t, List.replicate k (.status .incomplete)) ∧
      t.pstate ≠ .waitStart

/-- `42_parser.md` R156, `70_reset_and_hazards.md` R203: the completed frame on `p_frame` is changed by no operation
while the parser waits for a start, the next P.SYNC included; the first field to change is message_id, at the next
P.ID. -/
def Obligations.CompletedFrameStaysReadable : Prop :=
  (∀ (s t : State) (b : Byte) (st : Status), exec (.pByte b) s = .next t → t.result = .status st → st ≠ .incomplete →
    t.pFrame = { s.pFrame with checksum := b } ∧ t.pstate = .waitStart) ∧
  (∀ (i : Instr) (s t : State), s.pstate = .waitStart → s.pfStartMarker = 0x55#8 → exec i s = .next t →
    t.pFrame = s.pFrame) ∧
  (∀ (s t : State) (b : Byte), s.pstate = .readHeader → s.hdrCount = 1#2 → exec (.pByte b) s = .next t →
    t.pFrame = { s.pFrame with messageId := b })

/-- `10_state.md` R32: "No rule of the block reads a frame-buffer cell before the current frame has written it ... so the
unspecified values never reach a status". In each step from a reachable state, what the current frame has not written
yet reaches neither the result nor the part of the next state that counts; and a run that starts between frames gives
the same results whatever the whole frame buffer held. -/
def Obligations.UnspecifiedFrameBufferNeverReachesResults : Prop :=
  (∀ s s' t : State, s.Sequenced → s.SameFrameSoFar s' → step s = .next t →
    ∃ t', step s' = .next t' ∧ t'.result = t.result ∧ t.SameFrameSoFar t') ∧
  (∀ (s t : State) (n : Nat) (m : Memory) (marker ident len checksum : Byte), s.Sequenced → s.pstate = .waitStart →
    Host.Core.run Sys2Proof.core n s = .next t →
    ∃ t', Host.Core.run Sys2Proof.core n { s with pfStartMarker := marker, pfMessageId := ident, pfLength := len,
                                                  payload := m, pfChecksum := checksum } = .next t' ∧
      t'.result = t.result ∧ t.SameFrameSoFar t')
end

