-- ==== Sys2Proof/Laws/Checksum.lean ====
section
/-!
SUPPORT. The fold, one byte at a time.
-/

namespace Sys2Proof.Machine

@[simp] theorem xorfold_nil : xorfold [] = 0x00#8 := rfl

/-- A fold that starts from `a` is the fold from zero with `a` in front. -/
theorem foldl_xor_eq (s : ByteSeq) (a : Byte) : s.foldl (fun a b => a ^^^ b) a = a ^^^ xorfold s := by
  unfold xorfold
  induction s generalizing a with
  | nil => simp
  | cons x s ih => rw [List.foldl_cons, ih, List.foldl_cons, ih (0x00#8 ^^^ x)]; simp [BitVec.xor_assoc]

theorem xorfold_cons (x : Byte) (s : ByteSeq) : xorfold (x :: s) = x ^^^ xorfold s := by
  rw [xorfold, List.foldl_cons, foldl_xor_eq]; simp

end Sys2Proof.Machine
end

