-- ==== Sys2Proof/Laws/Decode.lean ====
section
/-!
SUPPORT. The case analysis of `transitionOf` read off the rows of the transition table.
-/

namespace Sys2Proof

/-- A transition is selected exactly where its row matches and `hdr_count` is not 3. -/
theorem transitionOf_eq_some_iff (k : Key) (b : Byte) (t : Transition) :
    transitionOf k b = some t ↔ k.hdrCount ≠ 3#2 ∧ t.RowMatches k b := by
  unfold transitionOf
  by_cases h : k.hdrCount = 3#2
  · simp [h]
  · rw [if_neg h]
    cases hp : k.pstate <;> cases t <;> simp only [Transition.RowMatches, hp] <;> (repeat' split) <;>
      simp_all <;> omega

/-- No transition is selected exactly in the three combinations of `42_parser.md` R151, whatever the byte. -/
theorem transitionOf_eq_none_iff (k : Key) (b : Byte) :
    transitionOf k b = none ↔
      k.hdrCount = 3#2 ∨ (k.pstate = .readHeader ∧ k.hdrCount ≠ 1#2 ∧ k.hdrCount ≠ 2#2) ∨
        (k.pstate = .readPayload ∧ k.length.toNat ≤ k.cursor.toNat) := by
  unfold transitionOf
  by_cases h : k.hdrCount = 3#2
  · simp [h]
  · rw [if_neg h]
    cases hp : k.pstate <;> (repeat' split) <;> simp_all

end Sys2Proof
end

