-- ==== Sys2Proof/Laws/State.lean ====
section
/-!
SUPPORT. One lemma per field of State and per named update, each true by rfl, so that no proof unfolds a record update.
-/

namespace Sys2Proof.Machine

/-! ### `State.answer` -/

@[simp] theorem State.answer_acc (s : State) (r : Result) : (s.answer r).acc = s.acc := rfl
@[simp] theorem State.answer_pstate (s : State) (r : Result) : (s.answer r).pstate = s.pstate := rfl
@[simp] theorem State.answer_hdrCount (s : State) (r : Result) : (s.answer r).hdrCount = s.hdrCount := rfl
@[simp] theorem State.answer_cursor (s : State) (r : Result) : (s.answer r).cursor = s.cursor := rfl
@[simp] theorem State.answer_pfStartMarker (s : State) (r : Result) :
    (s.answer r).pfStartMarker = s.pfStartMarker := rfl
@[simp] theorem State.answer_pfMessageId (s : State) (r : Result) : (s.answer r).pfMessageId = s.pfMessageId := rfl
@[simp] theorem State.answer_pfLength (s : State) (r : Result) : (s.answer r).pfLength = s.pfLength := rfl
@[simp] theorem State.answer_payload (s : State) (r : Result) : (s.answer r).payload = s.payload := rfl
@[simp] theorem State.answer_pfChecksum (s : State) (r : Result) : (s.answer r).pfChecksum = s.pfChecksum := rfl
@[simp] theorem State.answer_inputs (s : State) (r : Result) : (s.answer r).inputs = s.inputs := rfl
@[simp] theorem State.answer_result (s : State) (r : Result) : (s.answer r).result = r := rfl

/-! ### `State.raise` -/

@[simp] theorem State.raise_acc (s : State) (e : ErrorCode) : (s.raise e).acc = s.acc := rfl
@[simp] theorem State.raise_pstate (s : State) (e : ErrorCode) : (s.raise e).pstate = s.pstate := rfl
@[simp] theorem State.raise_hdrCount (s : State) (e : ErrorCode) : (s.raise e).hdrCount = s.hdrCount := rfl
@[simp] theorem State.raise_cursor (s : State) (e : ErrorCode) : (s.raise e).cursor = s.cursor := rfl
@[simp] theorem State.raise_pfStartMarker (s : State) (e : ErrorCode) :
    (s.raise e).pfStartMarker = s.pfStartMarker := rfl
@[simp] theorem State.raise_pfMessageId (s : State) (e : ErrorCode) : (s.raise e).pfMessageId = s.pfMessageId := rfl
@[simp] theorem State.raise_pfLength (s : State) (e : ErrorCode) : (s.raise e).pfLength = s.pfLength := rfl
@[simp] theorem State.raise_payload (s : State) (e : ErrorCode) : (s.raise e).payload = s.payload := rfl
@[simp] theorem State.raise_pfChecksum (s : State) (e : ErrorCode) : (s.raise e).pfChecksum = s.pfChecksum := rfl
@[simp] theorem State.raise_inputs (s : State) (e : ErrorCode) : (s.raise e).inputs = s.inputs := rfl
@[simp] theorem State.raise_result (s : State) (e : ErrorCode) : (s.raise e).result = .error e := rfl

/-! ### `State.idle` -/

@[simp] theorem State.idle_acc (s : State) : (s.idle).acc = s.acc := rfl
@[simp] theorem State.idle_pstate (s : State) : (s.idle).pstate = s.pstate := rfl
@[simp] theorem State.idle_hdrCount (s : State) : (s.idle).hdrCount = s.hdrCount := rfl
@[simp] theorem State.idle_cursor (s : State) : (s.idle).cursor = s.cursor := rfl
@[simp] theorem State.idle_pfStartMarker (s : State) : (s.idle).pfStartMarker = s.pfStartMarker := rfl
@[simp] theorem State.idle_pfMessageId (s : State) : (s.idle).pfMessageId = s.pfMessageId := rfl
@[simp] theorem State.idle_pfLength (s : State) : (s.idle).pfLength = s.pfLength := rfl
@[simp] theorem State.idle_payload (s : State) : (s.idle).payload = s.payload := rfl
@[simp] theorem State.idle_pfChecksum (s : State) : (s.idle).pfChecksum = s.pfChecksum := rfl
@[simp] theorem State.idle_inputs (s : State) : (s.idle).inputs = s.inputs := rfl
@[simp] theorem State.idle_result (s : State) : (s.idle).result = .none := rfl

/-! ### `State.rearm` -/

@[simp] theorem State.rearm_acc (s : State) : (s.rearm).acc = s.acc := rfl
@[simp] theorem State.rearm_pstate (s : State) : (s.rearm).pstate = .waitStart := rfl
@[simp] theorem State.rearm_hdrCount (s : State) : (s.rearm).hdrCount = 0#2 := rfl
@[simp] theorem State.rearm_cursor (s : State) : (s.rearm).cursor = 0#8 := rfl
@[simp] theorem State.rearm_pfStartMarker (s : State) : (s.rearm).pfStartMarker = s.pfStartMarker := rfl
@[simp] theorem State.rearm_pfMessageId (s : State) : (s.rearm).pfMessageId = s.pfMessageId := rfl
@[simp] theorem State.rearm_pfLength (s : State) : (s.rearm).pfLength = s.pfLength := rfl
@[simp] theorem State.rearm_payload (s : State) : (s.rearm).payload = s.payload := rfl
@[simp] theorem State.rearm_pfChecksum (s : State) : (s.rearm).pfChecksum = s.pfChecksum := rfl
@[simp] theorem State.rearm_inputs (s : State) : (s.rearm).inputs = s.inputs := rfl
@[simp] theorem State.rearm_result (s : State) : (s.rearm).result = s.result := rfl

/-! ### `State.hardwareReset` -/

@[simp] theorem State.hardwareReset_acc (s : State) : (s.hardwareReset).acc = 0x00#8 := rfl
@[simp] theorem State.hardwareReset_pstate (s : State) : (s.hardwareReset).pstate = .waitStart := rfl
@[simp] theorem State.hardwareReset_hdrCount (s : State) : (s.hardwareReset).hdrCount = 0#2 := rfl
@[simp] theorem State.hardwareReset_cursor (s : State) : (s.hardwareReset).cursor = 0#8 := rfl
@[simp] theorem State.hardwareReset_pfStartMarker (s : State) :
    (s.hardwareReset).pfStartMarker = s.pfStartMarker := rfl
@[simp] theorem State.hardwareReset_pfMessageId (s : State) : (s.hardwareReset).pfMessageId = s.pfMessageId := rfl
@[simp] theorem State.hardwareReset_pfLength (s : State) : (s.hardwareReset).pfLength = s.pfLength := rfl
@[simp] theorem State.hardwareReset_payload (s : State) : (s.hardwareReset).payload = s.payload := rfl
@[simp] theorem State.hardwareReset_pfChecksum (s : State) : (s.hardwareReset).pfChecksum = s.pfChecksum := rfl
@[simp] theorem State.hardwareReset_inputs (s : State) : (s.hardwareReset).inputs = s.inputs := rfl
@[simp] theorem State.hardwareReset_result (s : State) : (s.hardwareReset).result = .none := rfl

/-! ### `State.writeCell` -/

@[simp] theorem State.writeCell_acc (s : State) (i : BitVec 8) (v : Byte) : (s.writeCell i v).acc = s.acc := rfl
@[simp] theorem State.writeCell_pstate (s : State) (i : BitVec 8) (v : Byte) :
    (s.writeCell i v).pstate = s.pstate := rfl
@[simp] theorem State.writeCell_hdrCount (s : State) (i : BitVec 8) (v : Byte) :
    (s.writeCell i v).hdrCount = s.hdrCount := rfl
@[simp] theorem State.writeCell_cursor (s : State) (i : BitVec 8) (v : Byte) :
    (s.writeCell i v).cursor = s.cursor := rfl
@[simp] theorem State.writeCell_pfStartMarker (s : State) (i : BitVec 8) (v : Byte) :
    (s.writeCell i v).pfStartMarker = s.pfStartMarker := rfl
@[simp] theorem State.writeCell_pfMessageId (s : State) (i : BitVec 8) (v : Byte) :
    (s.writeCell i v).pfMessageId = s.pfMessageId := rfl
@[simp] theorem State.writeCell_pfLength (s : State) (i : BitVec 8) (v : Byte) :
    (s.writeCell i v).pfLength = s.pfLength := rfl
@[simp] theorem State.writeCell_payload (s : State) (i : BitVec 8) (v : Byte) :
    (s.writeCell i v).payload = Memory.write s.payload i.toNat v := rfl
@[simp] theorem State.writeCell_pfChecksum (s : State) (i : BitVec 8) (v : Byte) :
    (s.writeCell i v).pfChecksum = s.pfChecksum := rfl
@[simp] theorem State.writeCell_inputs (s : State) (i : BitVec 8) (v : Byte) :
    (s.writeCell i v).inputs = s.inputs := rfl
@[simp] theorem State.writeCell_result (s : State) (i : BitVec 8) (v : Byte) :
    (s.writeCell i v).result = s.result := rfl

/-! ### `State.storePayload` -/

@[simp] theorem State.storePayload_acc (s : State) (b : Byte) : (s.storePayload b).acc = s.acc := rfl
@[simp] theorem State.storePayload_pstate (s : State) (b : Byte) : (s.storePayload b).pstate = s.pstate := rfl
@[simp] theorem State.storePayload_hdrCount (s : State) (b : Byte) : (s.storePayload b).hdrCount = s.hdrCount := rfl
@[simp] theorem State.storePayload_cursor (s : State) (b : Byte) : (s.storePayload b).cursor = s.cursor + 1#8 := rfl
@[simp] theorem State.storePayload_pfStartMarker (s : State) (b : Byte) :
    (s.storePayload b).pfStartMarker = s.pfStartMarker := rfl
@[simp] theorem State.storePayload_pfMessageId (s : State) (b : Byte) :
    (s.storePayload b).pfMessageId = s.pfMessageId := rfl
@[simp] theorem State.storePayload_pfLength (s : State) (b : Byte) : (s.storePayload b).pfLength = s.pfLength := rfl
@[simp] theorem State.storePayload_payload (s : State) (b : Byte) :
    (s.storePayload b).payload = Memory.write s.payload s.cursor.toNat b := rfl
@[simp] theorem State.storePayload_pfChecksum (s : State) (b : Byte) :
    (s.storePayload b).pfChecksum = s.pfChecksum := rfl
@[simp] theorem State.storePayload_inputs (s : State) (b : Byte) : (s.storePayload b).inputs = s.inputs := rfl
@[simp] theorem State.storePayload_result (s : State) (b : Byte) : (s.storePayload b).result = s.result := rfl

/-! ### `State.present` -/

@[simp] theorem State.present_acc (s : State) (r : Inputs) : (s.present r).acc = s.acc := rfl
@[simp] theorem State.present_pstate (s : State) (r : Inputs) : (s.present r).pstate = s.pstate := rfl
@[simp] theorem State.present_hdrCount (s : State) (r : Inputs) : (s.present r).hdrCount = s.hdrCount := rfl
@[simp] theorem State.present_cursor (s : State) (r : Inputs) : (s.present r).cursor = s.cursor := rfl
@[simp] theorem State.present_pfStartMarker (s : State) (r : Inputs) :
    (s.present r).pfStartMarker = s.pfStartMarker := rfl
@[simp] theorem State.present_pfMessageId (s : State) (r : Inputs) : (s.present r).pfMessageId = s.pfMessageId := rfl
@[simp] theorem State.present_pfLength (s : State) (r : Inputs) : (s.present r).pfLength = s.pfLength := rfl
@[simp] theorem State.present_payload (s : State) (r : Inputs) : (s.present r).payload = s.payload := rfl
@[simp] theorem State.present_pfChecksum (s : State) (r : Inputs) : (s.present r).pfChecksum = s.pfChecksum := rfl
@[simp] theorem State.present_inputs (s : State) (r : Inputs) : (s.present r).inputs = r :: s.inputs := rfl
@[simp] theorem State.present_result (s : State) (r : Inputs) : (s.present r).result = s.result := rfl

/-! ### `State.withKey` -/

@[simp] theorem State.withKey_acc (s : State) (k : Key) : (s.withKey k).acc = s.acc := rfl
@[simp] theorem State.withKey_pstate (s : State) (k : Key) : (s.withKey k).pstate = k.pstate := rfl
@[simp] theorem State.withKey_hdrCount (s : State) (k : Key) : (s.withKey k).hdrCount = k.hdrCount := rfl
@[simp] theorem State.withKey_cursor (s : State) (k : Key) : (s.withKey k).cursor = k.cursor := rfl
@[simp] theorem State.withKey_pfStartMarker (s : State) (k : Key) :
    (s.withKey k).pfStartMarker = s.pfStartMarker := rfl
@[simp] theorem State.withKey_pfMessageId (s : State) (k : Key) : (s.withKey k).pfMessageId = s.pfMessageId := rfl
@[simp] theorem State.withKey_pfLength (s : State) (k : Key) : (s.withKey k).pfLength = k.length := rfl
@[simp] theorem State.withKey_payload (s : State) (k : Key) : (s.withKey k).payload = s.payload := rfl
@[simp] theorem State.withKey_pfChecksum (s : State) (k : Key) : (s.withKey k).pfChecksum = s.pfChecksum := rfl
@[simp] theorem State.withKey_inputs (s : State) (k : Key) : (s.withKey k).inputs = s.inputs := rfl
@[simp] theorem State.withKey_result (s : State) (k : Key) : (s.withKey k).result = s.result := rfl

/-! ### `State.takeSync` -/

@[simp] theorem State.takeSync_acc (s : State) (b : Byte) : (s.takeSync b).acc = s.acc := rfl
@[simp] theorem State.takeSync_pstate (s : State) (b : Byte) : (s.takeSync b).pstate = .readHeader := rfl
@[simp] theorem State.takeSync_hdrCount (s : State) (b : Byte) : (s.takeSync b).hdrCount = 1#2 := rfl
@[simp] theorem State.takeSync_cursor (s : State) (b : Byte) : (s.takeSync b).cursor = s.cursor := rfl
@[simp] theorem State.takeSync_pfStartMarker (s : State) (b : Byte) : (s.takeSync b).pfStartMarker = b := rfl
@[simp] theorem State.takeSync_pfMessageId (s : State) (b : Byte) : (s.takeSync b).pfMessageId = s.pfMessageId := rfl
@[simp] theorem State.takeSync_pfLength (s : State) (b : Byte) : (s.takeSync b).pfLength = s.pfLength := rfl
@[simp] theorem State.takeSync_payload (s : State) (b : Byte) : (s.takeSync b).payload = s.payload := rfl
@[simp] theorem State.takeSync_pfChecksum (s : State) (b : Byte) : (s.takeSync b).pfChecksum = s.pfChecksum := rfl
@[simp] theorem State.takeSync_inputs (s : State) (b : Byte) : (s.takeSync b).inputs = s.inputs := rfl
@[simp] theorem State.takeSync_result (s : State) (b : Byte) : (s.takeSync b).result = .status .incomplete := rfl

/-! ### `State.takeSkip` -/

@[simp] theorem State.takeSkip_acc (s : State) : (s.takeSkip).acc = s.acc := rfl
@[simp] theorem State.takeSkip_pstate (s : State) : (s.takeSkip).pstate = s.pstate := rfl
@[simp] theorem State.takeSkip_hdrCount (s : State) : (s.takeSkip).hdrCount = s.hdrCount := rfl
@[simp] theorem State.takeSkip_cursor (s : State) : (s.takeSkip).cursor = s.cursor := rfl
@[simp] theorem State.takeSkip_pfStartMarker (s : State) : (s.takeSkip).pfStartMarker = s.pfStartMarker := rfl
@[simp] theorem State.takeSkip_pfMessageId (s : State) : (s.takeSkip).pfMessageId = s.pfMessageId := rfl
@[simp] theorem State.takeSkip_pfLength (s : State) : (s.takeSkip).pfLength = s.pfLength := rfl
@[simp] theorem State.takeSkip_payload (s : State) : (s.takeSkip).payload = s.payload := rfl
@[simp] theorem State.takeSkip_pfChecksum (s : State) : (s.takeSkip).pfChecksum = s.pfChecksum := rfl
@[simp] theorem State.takeSkip_inputs (s : State) : (s.takeSkip).inputs = s.inputs := rfl
@[simp] theorem State.takeSkip_result (s : State) : (s.takeSkip).result = .status .incomplete := rfl

/-! ### `State.takeIdent` -/

@[simp] theorem State.takeIdent_acc (s : State) (b : Byte) : (s.takeIdent b).acc = s.acc := rfl
@[simp] theorem State.takeIdent_pstate (s : State) (b : Byte) : (s.takeIdent b).pstate = s.pstate := rfl
@[simp] theorem State.takeIdent_hdrCount (s : State) (b : Byte) : (s.takeIdent b).hdrCount = 2#2 := rfl
@[simp] theorem State.takeIdent_cursor (s : State) (b : Byte) : (s.takeIdent b).cursor = s.cursor := rfl
@[simp] theorem State.takeIdent_pfStartMarker (s : State) (b : Byte) :
    (s.takeIdent b).pfStartMarker = s.pfStartMarker := rfl
@[simp] theorem State.takeIdent_pfMessageId (s : State) (b : Byte) : (s.takeIdent b).pfMessageId = b := rfl
@[simp] theorem State.takeIdent_pfLength (s : State) (b : Byte) : (s.takeIdent b).pfLength = s.pfLength := rfl
@[simp] theorem State.takeIdent_payload (s : State) (b : Byte) : (s.takeIdent b).payload = s.payload := rfl
@[simp] theorem State.takeIdent_pfChecksum (s : State) (b : Byte) : (s.takeIdent b).pfChecksum = s.pfChecksum := rfl
@[simp] theorem State.takeIdent_inputs (s : State) (b : Byte) : (s.takeIdent b).inputs = s.inputs := rfl
@[simp] theorem State.takeIdent_result (s : State) (b : Byte) : (s.takeIdent b).result = .status .incomplete := rfl

/-! ### `State.takeLen` -/

@[simp] theorem State.takeLen_acc (s : State) (b : Byte) : (s.takeLen b).acc = s.acc := rfl
@[simp] theorem State.takeLen_pstate (s : State) (b : Byte) : (s.takeLen b).pstate = .readPayload := rfl
@[simp] theorem State.takeLen_hdrCount (s : State) (b : Byte) : (s.takeLen b).hdrCount = s.hdrCount := rfl
@[simp] theorem State.takeLen_cursor (s : State) (b : Byte) : (s.takeLen b).cursor = 0#8 := rfl
@[simp] theorem State.takeLen_pfStartMarker (s : State) (b : Byte) :
    (s.takeLen b).pfStartMarker = s.pfStartMarker := rfl
@[simp] theorem State.takeLen_pfMessageId (s : State) (b : Byte) : (s.takeLen b).pfMessageId = s.pfMessageId := rfl
@[simp] theorem State.takeLen_pfLength (s : State) (b : Byte) : (s.takeLen b).pfLength = b := rfl
@[simp] theorem State.takeLen_payload (s : State) (b : Byte) : (s.takeLen b).payload = s.payload := rfl
@[simp] theorem State.takeLen_pfChecksum (s : State) (b : Byte) : (s.takeLen b).pfChecksum = s.pfChecksum := rfl
@[simp] theorem State.takeLen_inputs (s : State) (b : Byte) : (s.takeLen b).inputs = s.inputs := rfl
@[simp] theorem State.takeLen_result (s : State) (b : Byte) : (s.takeLen b).result = .status .incomplete := rfl

/-! ### `State.takeLen0` -/

@[simp] theorem State.takeLen0_acc (s : State) : (s.takeLen0).acc = s.acc := rfl
@[simp] theorem State.takeLen0_pstate (s : State) : (s.takeLen0).pstate = .verifyChecksum := rfl
@[simp] theorem State.takeLen0_hdrCount (s : State) : (s.takeLen0).hdrCount = s.hdrCount := rfl
@[simp] theorem State.takeLen0_cursor (s : State) : (s.takeLen0).cursor = 0#8 := rfl
@[simp] theorem State.takeLen0_pfStartMarker (s : State) : (s.takeLen0).pfStartMarker = s.pfStartMarker := rfl
@[simp] theorem State.takeLen0_pfMessageId (s : State) : (s.takeLen0).pfMessageId = s.pfMessageId := rfl
@[simp] theorem State.takeLen0_pfLength (s : State) : (s.takeLen0).pfLength = 0x00#8 := rfl
@[simp] theorem State.takeLen0_payload (s : State) : (s.takeLen0).payload = s.payload := rfl
@[simp] theorem State.takeLen0_pfChecksum (s : State) : (s.takeLen0).pfChecksum = s.pfChecksum := rfl
@[simp] theorem State.takeLen0_inputs (s : State) : (s.takeLen0).inputs = s.inputs := rfl
@[simp] theorem State.takeLen0_result (s : State) : (s.takeLen0).result = .status .incomplete := rfl

/-! ### `State.takePay` -/

@[simp] theorem State.takePay_acc (s : State) (b : Byte) : (s.takePay b).acc = s.acc := rfl
@[simp] theorem State.takePay_pstate (s : State) (b : Byte) : (s.takePay b).pstate = s.pstate := rfl
@[simp] theorem State.takePay_hdrCount (s : State) (b : Byte) : (s.takePay b).hdrCount = s.hdrCount := rfl
@[simp] theorem State.takePay_cursor (s : State) (b : Byte) : (s.takePay b).cursor = s.cursor + 1#8 := rfl
@[simp] theorem State.takePay_pfStartMarker (s : State) (b : Byte) :
    (s.takePay b).pfStartMarker = s.pfStartMarker := rfl
@[simp] theorem State.takePay_pfMessageId (s : State) (b : Byte) : (s.takePay b).pfMessageId = s.pfMessageId := rfl
@[simp] theorem State.takePay_pfLength (s : State) (b : Byte) : (s.takePay b).pfLength = s.pfLength := rfl
@[simp] theorem State.takePay_payload (s : State) (b : Byte) :
    (s.takePay b).payload = Memory.write s.payload s.cursor.toNat b := rfl
@[simp] theorem State.takePay_pfChecksum (s : State) (b : Byte) : (s.takePay b).pfChecksum = s.pfChecksum := rfl
@[simp] theorem State.takePay_inputs (s : State) (b : Byte) : (s.takePay b).inputs = s.inputs := rfl
@[simp] theorem State.takePay_result (s : State) (b : Byte) : (s.takePay b).result = .status .incomplete := rfl

/-! ### `State.takePayl` -/

@[simp] theorem State.takePayl_acc (s : State) (b : Byte) : (s.takePayl b).acc = s.acc := rfl
@[simp] theorem State.takePayl_pstate (s : State) (b : Byte) : (s.takePayl b).pstate = .verifyChecksum := rfl
@[simp] theorem State.takePayl_hdrCount (s : State) (b : Byte) : (s.takePayl b).hdrCount = s.hdrCount := rfl
@[simp] theorem State.takePayl_cursor (s : State) (b : Byte) : (s.takePayl b).cursor = s.cursor + 1#8 := rfl
@[simp] theorem State.takePayl_pfStartMarker (s : State) (b : Byte) :
    (s.takePayl b).pfStartMarker = s.pfStartMarker := rfl
@[simp] theorem State.takePayl_pfMessageId (s : State) (b : Byte) : (s.takePayl b).pfMessageId = s.pfMessageId := rfl
@[simp] theorem State.takePayl_pfLength (s : State) (b : Byte) : (s.takePayl b).pfLength = s.pfLength := rfl
@[simp] theorem State.takePayl_payload (s : State) (b : Byte) :
    (s.takePayl b).payload = Memory.write s.payload s.cursor.toNat b := rfl
@[simp] theorem State.takePayl_pfChecksum (s : State) (b : Byte) : (s.takePayl b).pfChecksum = s.pfChecksum := rfl
@[simp] theorem State.takePayl_inputs (s : State) (b : Byte) : (s.takePayl b).inputs = s.inputs := rfl
@[simp] theorem State.takePayl_result (s : State) (b : Byte) : (s.takePayl b).result = .status .incomplete := rfl

/-! ### `State.takeCsum` -/

@[simp] theorem State.takeCsum_acc (s : State) (b : Byte) : (s.takeCsum b).acc = s.acc := rfl
@[simp] theorem State.takeCsum_pstate (s : State) (b : Byte) : (s.takeCsum b).pstate = .waitStart := rfl
@[simp] theorem State.takeCsum_hdrCount (s : State) (b : Byte) : (s.takeCsum b).hdrCount = 0#2 := rfl
@[simp] theorem State.takeCsum_cursor (s : State) (b : Byte) : (s.takeCsum b).cursor = 0#8 := rfl
@[simp] theorem State.takeCsum_pfStartMarker (s : State) (b : Byte) :
    (s.takeCsum b).pfStartMarker = s.pfStartMarker := rfl
@[simp] theorem State.takeCsum_pfMessageId (s : State) (b : Byte) : (s.takeCsum b).pfMessageId = s.pfMessageId := rfl
@[simp] theorem State.takeCsum_pfLength (s : State) (b : Byte) : (s.takeCsum b).pfLength = s.pfLength := rfl
@[simp] theorem State.takeCsum_payload (s : State) (b : Byte) : (s.takeCsum b).payload = s.payload := rfl
@[simp] theorem State.takeCsum_pfChecksum (s : State) (b : Byte) : (s.takeCsum b).pfChecksum = b := rfl
@[simp] theorem State.takeCsum_inputs (s : State) (b : Byte) : (s.takeCsum b).inputs = s.inputs := rfl
@[simp] theorem State.takeCsum_result (s : State) (b : Byte) :
    (s.takeCsum b).result = .status (statusOf ({ s with pfChecksum := b } : State).pFrame.isValid) := rfl

/-! ### `State.fetch` -/

theorem State.fetch_nil (s : State) (h : s.inputs = []) : s.fetch = none := by
  simp [State.fetch, h]

theorem State.fetch_cons (s : State) (r : Inputs) (rest : List Inputs) (h : s.inputs = r :: rest) :
    s.fetch = some (r, { s with inputs := rest }) := by
  simp [State.fetch, h]

/-! ### `State.key` and `State.pFrame` -/

@[simp] theorem State.key_pstate (s : State) : s.key.pstate = s.pstate := rfl
@[simp] theorem State.key_hdrCount (s : State) : s.key.hdrCount = s.hdrCount := rfl
@[simp] theorem State.key_cursor (s : State) : s.key.cursor = s.cursor := rfl
@[simp] theorem State.key_length (s : State) : s.key.length = s.pfLength := rfl
@[simp] theorem State.pFrame_startMarker (s : State) : s.pFrame.startMarker = s.pfStartMarker := rfl
@[simp] theorem State.pFrame_messageId (s : State) : s.pFrame.messageId = s.pfMessageId := rfl
@[simp] theorem State.pFrame_length (s : State) : s.pFrame.length = s.pfLength := rfl
@[simp] theorem State.pFrame_checksum (s : State) : s.pFrame.checksum = s.pfChecksum := rfl
@[simp] theorem State.pFrame_payload (s : State) : s.pFrame.payload = cellsOf s.readCell := rfl

end Sys2Proof.Machine
end

