-- ==== Sys2Proof/Laws/Exec.lean ====
section
/-!
SUPPORT. What an operation and a step can do, said once: later proofs cite these and unfold neither.
-/

namespace Sys2Proof.Machine

/-- Where a row matches, P.BYTE performs it. -/
theorem exec_pByte_of_row (s : State) (b : Byte) (t : Transition) (h3 : s.hdrCount ≠ 3#2) (h : t.RowMatches s.key b) :
    exec (.pByte b) s = .next (s.take t b) := by
  have := (transitionOf_eq_some_iff s.key b t).2 ⟨h3, h⟩
  simp only [exec, execPByte, this]

/-- If a transition row answers a next state, it is the row the key selects, and its effect. -/
theorem execRow_next (t : Transition) (b : Byte) (s u : State) (h : execRow t b s = .next u) :
    s.hdrCount ≠ 3#2 ∧ t.RowMatches s.key b ∧ u = s.take t b := by
  unfold execRow at h
  split at h
  · rename_i t' ht
    split at h
    · rename_i e
      subst e
      have := (transitionOf_eq_some_iff _ _ _).1 ht
      cases h
      exact ⟨this.1, this.2, rfl⟩
    · cases h
  · cases h

/-- The operations of CSA, ENC, DEC and VFY always complete, writing nothing but `acc` and the answer. -/
theorem exec_other_next (i : Instr) (s : State) (hi : isParserOp i = false) :
    ∃ r a, exec i s = .next { s with acc := a, result := r } := by
  cases i <;> first | (cases hi; done) | skip
  · exact ⟨_, _, rfl⟩
  · exact ⟨_, _, rfl⟩
  · exact ⟨_, _, rfl⟩
  · rename_i m d n
    cases hb : buildFrame m d n <;> exact ⟨_, _, by simp only [exec, execBuild, hb, State.answerFrame]; rfl⟩
  · exact ⟨_, _, rfl⟩
  · exact ⟨_, _, rfl⟩
  · rename_i m
    cases hb : deserialise m <;> exact ⟨_, _, by simp only [exec, execDeser, hb, State.answerFrame]; rfl⟩

/-- A pure operation answers one and the same result in every state, and writes nothing but the answer. -/
theorem exec_pure_next (i : Instr) (hi : isPure i = true) : ∃ r, ∀ s, exec i s = .next { s with result := r } := by
  cases i <;> first | (cases hi; done) | skip
  · exact ⟨_, fun _ => rfl⟩
  · rename_i m d n
    cases hb : buildFrame m d n <;> exact ⟨_, fun _ => by simp only [exec, execBuild, hb, State.answerFrame]; rfl⟩
  · exact ⟨_, fun _ => rfl⟩
  · exact ⟨_, fun _ => rfl⟩
  · rename_i m
    cases hb : deserialise m <;> exact ⟨_, fun _ => by simp only [exec, execDeser, hb, State.answerFrame]; rfl⟩

/-- If an operation of the parser answers a next state, it is P.INIT's or a selected transition's. -/
theorem exec_parser_next (i : Instr) (s t : State) (hi : isParserOp i = true) (h : exec i s = .next t) :
    (i = .pInit ∧ t = s.rearm.answer .done) ∨
      ∃ tr b, s.hdrCount ≠ 3#2 ∧ tr.RowMatches s.key b ∧ t = s.take tr b ∧ (i = .pByte b ∨ i = tr.toInstr b) := by
  cases i <;> first | (cases hi; done) | skip
  · left; cases h; exact ⟨rfl, rfl⟩
  · rename_i b
    right
    simp only [exec, execPByte] at h
    split at h
    · rename_i t' ht
      have := (transitionOf_eq_some_iff _ _ _).1 ht
      cases h
      exact ⟨t', b, this.1, this.2, rfl, .inl rfl⟩
    · cases h
  · right; obtain ⟨a, b, c⟩ := execRow_next .sync _ _ _ h; exact ⟨.sync, _, a, b, c, .inr rfl⟩
  · right; obtain ⟨a, b, c⟩ := execRow_next .skip _ _ _ h; exact ⟨.skip, _, a, b, c, .inr rfl⟩
  · right; obtain ⟨a, b, c⟩ := execRow_next .ident _ _ _ h; exact ⟨.ident, _, a, b, c, .inr rfl⟩
  · right; obtain ⟨a, b, c⟩ := execRow_next .len _ _ _ h; exact ⟨.len, _, a, b, c, .inr rfl⟩
  · right; obtain ⟨a, b, c⟩ := execRow_next .len0 _ _ _ h; exact ⟨.len0, _, a, b, c, .inr rfl⟩
  · right; obtain ⟨a, b, c⟩ := execRow_next .pay _ _ _ h; exact ⟨.pay, _, a, b, c, .inr rfl⟩
  · right; obtain ⟨a, b, c⟩ := execRow_next .payl _ _ _ h; exact ⟨.payl, _, a, b, c, .inr rfl⟩
  · right; obtain ⟨a, b, c⟩ := execRow_next .csum _ _ _ h; exact ⟨.csum, _, a, b, c, .inr rfl⟩

/-- If an operation answers a next state, one of three things happened. -/
theorem exec_next (i : Instr) (s t : State) (h : exec i s = .next t) :
    (isParserOp i = false ∧ ∃ r a, t = { s with acc := a, result := r }) ∨ t = s.rearm.answer .done ∨
      ∃ tr b, s.hdrCount ≠ 3#2 ∧ tr.RowMatches s.key b ∧ t = s.take tr b := by
  cases hi : isParserOp i with
  | false =>
    obtain ⟨r, a, h1⟩ := exec_other_next i s hi
    rw [h1] at h; cases h
    exact .inl ⟨rfl, _, _, rfl⟩
  | true =>
    rcases exec_parser_next i s t hi h with ⟨_, h⟩ | ⟨tr, b, a, b', c, _⟩
    · exact .inr (.inl h)
    · exact .inr (.inr ⟨tr, b, a, b', c⟩)

/-- If a step answers a next state, it was idle, a rejected code, a reset, or an operation on the state from which the
request has been taken. -/
theorem step_next (s t : State) (h : step s = .next t) :
    (∃ rest, t = ({ s with inputs := rest } : State).idle) ∨
    (∃ rest, t = ({ s with inputs := rest } : State).raise .illegalOp) ∨
    (∃ rest, t = ({ s with inputs := rest } : State).hardwareReset) ∨
    (∃ rest i, exec i { s with inputs := rest } = .next t) := by
  cases hi : s.inputs with
  | nil =>
    simp only [step, State.fetch_nil s hi] at h
    cases h; exact .inl ⟨s.inputs, rfl⟩
  | cons r rest =>
    simp only [step, State.fetch_cons s r rest hi, stepOn] at h
    split at h
    · cases h; exact .inr (.inr (.inl ⟨rest, rfl⟩))
    · split at h
      · split at h
        · exact .inr (.inr (.inr ⟨rest, _, h⟩))
        · rename_i e _
          cases e <;> simp only [rejectRequest] at h <;> cases h
          exact .inr (.inl ⟨rest, rfl⟩)
      · cases h; exact .inl ⟨rest, rfl⟩

end Sys2Proof.Machine
end

