-- ==== Sys2Proof/Laws/Frame.lean ====
section
/-!
SUPPORT. The cells and the meaningful bytes of a Frame value.
-/

namespace Sys2Proof.Machine

@[simp] theorem cellsOf_toList (f : Nat → Byte) : (cellsOf f).toList = (List.range 256).map f := by
  simp [cellsOf]

theorem cellsOf_getElem? (f : Nat → Byte) (i : Nat) (h : i < 256) : (cellsOf f)[i]? = some (f i) := by
  rw [Vector.getElem?_eq_getElem h]
  simp [cellsOf]

theorem take_cellsOf (f : Nat → Byte) (n : Nat) (h : n ≤ 256) :
    (cellsOf f).toList.take n = (List.range n).map f := by
  rw [cellsOf_toList, ← List.map_take, List.take_range, Nat.min_eq_left h]

@[simp] theorem frame_bytes_length (f : Frame) : f.bytes.length = f.length.toNat := by
  simp [Frame.bytes]; omega

/-- The meaningful bytes of the frame buffer are the cells below `pf.length`. -/
theorem pFrame_bytes (s : State) : s.pFrame.bytes = (List.range s.pfLength.toNat).map s.readCell :=
  take_cellsOf _ _ (by have := s.pfLength.isLt; simp only [State.pFrame_length]; omega)

theorem serialise_length (f : Frame) : (serialise f).length = 4 + f.length.toNat := by
  simp [serialise]; omega

theorem wireSize_toNat (l : Byte) : (wireSize l).toNat = 4 + l.toNat := by
  simp [wireSize]; omega

end Sys2Proof.Machine
end

