-- ==== Sys2Proof/Laws/Memory.lean ====
section
/-!
SUPPORT. Every operation on the payload buffer keeps its canonical form (`Memory.write` is the only one that changes
it).
-/

namespace Sys2Proof.Machine

/-- The indices listed after a write. -/
theorem Memory.mem_keys_write (m : Memory) (i : Nat) (v : Byte) (j : Nat) :
    j ∈ (Memory.write m i v).map Prod.fst ↔ j = i ∨ j ∈ m.map Prod.fst := by
  induction m with
  | nil => simp [Memory.write]
  | cons c m ih =>
    obtain ⟨a, b⟩ := c
    simp only [Memory.write]
    split
    · simp
    · split
      · subst i; simp
      · simp only [List.map_cons, List.mem_cons, ih]; tauto

theorem Memory.pairwise_write (m : Memory) (i : Nat) (v : Byte) (h : (m.map Prod.fst).Pairwise (· < ·)) :
    ((Memory.write m i v).map Prod.fst).Pairwise (· < ·) := by
  induction m with
  | nil => simp [Memory.write]
  | cons c m ih =>
    obtain ⟨a, b⟩ := c
    simp only [List.map_cons, List.pairwise_cons] at h
    simp only [Memory.write]
    split
    · rename_i hia
      simp only [List.map_cons, List.pairwise_cons]
      refine ⟨fun x hx => ?_, h⟩
      rcases List.mem_cons.1 hx with rfl | hx
      · exact hia
      · exact lt_trans hia (h.1 x hx)
    · split
      · subst i; simpa using h
      · simp only [List.map_cons, List.pairwise_cons]
        refine ⟨fun x hx => ?_, ih h.2⟩
        rcases (Memory.mem_keys_write m i v x).1 hx with rfl | hx
        · omega
        · exact h.1 x hx

/-- A write to a cell of the buffer keeps the canonical form. -/
theorem Memory.wf_write (m : Memory) (i : Nat) (v : Byte) (hi : i < Config.payloadCap) (h : Memory.wf m) :
    Memory.wf (Memory.write m i v) := by
  refine ⟨Memory.pairwise_write m i v h.1, fun j hj => ?_⟩
  rcases (Memory.mem_keys_write m i v j).1 hj with rfl | hj
  · exact hi
  · exact h.2 j hj

theorem State.wf_writeCell (s : State) (i : BitVec 8) (v : Byte) (h : Memory.wf s.payload) :
    Memory.wf (s.writeCell i v).payload :=
  Memory.wf_write s.payload i.toNat v i.isLt h

theorem reset_payload_wf : Memory.wf State.reset.payload := by decide

end Sys2Proof.Machine
end

