-- ==== Sys2Proof/Laws/PerInstr.lean ====
section
/-!
SUPPORT. The family `EncodedOpcode`: the request that stands for an instruction carries the instruction's code on `op`
(`30_encoding.md` R76; the transitions carry that of P.BYTE, R84), with `op_valid` = 1 and `rst` = 0.
-/

namespace Sys2Proof.Laws

/-- The code of `30_encoding.md` R76 for each instruction, in binary. -/
def opcodeOf : Instr → BitVec 4
  | .csClr => 0b0000#4
  | .csFold _ => 0b0001#4
  | .csum _ => 0b0010#4
  | .build _ _ _ => 0b0011#4
  | .verify _ => 0b0100#4
  | .ser _ => 0b0101#4
  | .deser _ => 0b0110#4
  | .pInit => 0b0111#4
  | .pByte _ => 0b1000#4
  | .pSync => 0b1000#4
  | .pSkip _ => 0b1000#4
  | .pId _ => 0b1000#4
  | .pLen _ => 0b1000#4
  | .pLen0 => 0b1000#4
  | .pPay _ => 0b1000#4
  | .pPayl _ => 0b1000#4
  | .pCsum _ => 0b1000#4

/-- The request that stands for `i` carries its code, asks for an operation and does not reset. -/
def EncodedOpcode.Statement (i : Instr) : Prop :=
  (encode i).inputs.op = opcodeOf i ∧ (encode i).inputs.opValid = true ∧ (encode i).inputs.rst = false

theorem EncodedOpcode.csClr : EncodedOpcode.Statement .csClr := ⟨rfl, rfl, rfl⟩
theorem EncodedOpcode.csFold (b : Byte) : EncodedOpcode.Statement (.csFold b) := ⟨rfl, rfl, rfl⟩
theorem EncodedOpcode.csum (s : ByteSeq) : EncodedOpcode.Statement (.csum s) := ⟨rfl, rfl, rfl⟩
theorem EncodedOpcode.build (msg : ByteSeq) (ident : Byte) (reqLen : BitVec 16) :
    EncodedOpcode.Statement (.build msg ident reqLen) := ⟨rfl, rfl, rfl⟩
theorem EncodedOpcode.verify (f : Frame) : EncodedOpcode.Statement (.verify f) := ⟨rfl, rfl, rfl⟩
theorem EncodedOpcode.ser (f : Frame) : EncodedOpcode.Statement (.ser f) := ⟨rfl, rfl, rfl⟩
theorem EncodedOpcode.deser (buf : ByteSeq) : EncodedOpcode.Statement (.deser buf) := ⟨rfl, rfl, rfl⟩
theorem EncodedOpcode.pInit : EncodedOpcode.Statement .pInit := ⟨rfl, rfl, rfl⟩
theorem EncodedOpcode.pByte (b : Byte) : EncodedOpcode.Statement (.pByte b) := ⟨rfl, rfl, rfl⟩
theorem EncodedOpcode.pSync : EncodedOpcode.Statement .pSync := ⟨rfl, rfl, rfl⟩
theorem EncodedOpcode.pSkip (b : Byte) : EncodedOpcode.Statement (.pSkip b) := ⟨rfl, rfl, rfl⟩
theorem EncodedOpcode.pId (b : Byte) : EncodedOpcode.Statement (.pId b) := ⟨rfl, rfl, rfl⟩
theorem EncodedOpcode.pLen (b : Byte) : EncodedOpcode.Statement (.pLen b) := ⟨rfl, rfl, rfl⟩
theorem EncodedOpcode.pLen0 : EncodedOpcode.Statement .pLen0 := ⟨rfl, rfl, rfl⟩
theorem EncodedOpcode.pPay (b : Byte) : EncodedOpcode.Statement (.pPay b) := ⟨rfl, rfl, rfl⟩
theorem EncodedOpcode.pPayl (b : Byte) : EncodedOpcode.Statement (.pPayl b) := ⟨rfl, rfl, rfl⟩
theorem EncodedOpcode.pCsum (b : Byte) : EncodedOpcode.Statement (.pCsum b) := ⟨rfl, rfl, rfl⟩

end Sys2Proof.Laws
end

