-- ==== Sys2Proof/Machine/Text.lean ====
section
/-!
DEFINITION. The textual form of operations and results (`30_encoding.md` R82, D27), as lists of characters. Where the
rule's examples differ among themselves in layout (padding before the arrow), one space is written (log entry 15). A
transition's comment stands at the end of the line, after the result (log entry 16).
-/

namespace Sys2Proof.Machine

/-- One hexadecimal digit. -/
def hexDigit (n : Nat) : Char := "0123456789ABCDEF".toList.getD n '?'

/-- A byte as two hexadecimal digits without the `0x`. -/
def hexByte (b : Byte) : List Char := [hexDigit (b.toNat / 16), hexDigit (b.toNat % 16)]

/-- A byte with the `0x`. -/
def hexByte0x (b : Byte) : List Char := '0' :: 'x' :: hexByte b

/-- A bracketed list of items. -/
def bracketed (separator : List Char) (items : List (List Char)) : List Char :=
  '[' :: (items.intersperse separator).flatten ++ [']']

/-- A byte sequence in the style `[0x07, 0x02]`. -/
def seqText0x (s : ByteSeq) : List Char := bracketed [',', ' '] (s.map hexByte0x)

/-- A byte sequence in the style `[07 02]`. -/
def seqText (s : ByteSeq) : List Char := bracketed [' '] (s.map hexByte)

/-- A Frame value: start marker, message_id, length, the first `length` payload bytes, checksum, between braces. -/
def frameText (f : Frame) : List Char :=
  "Frame".toList ++ [Char.ofNat 123] ++ hexByte f.startMarker ++ [' '] ++ hexByte f.messageId ++ [' '] ++
    hexByte f.length ++ [' '] ++ seqText f.bytes ++ [' '] ++ hexByte f.checksum ++ [Char.ofNat 125]

/-- The operation P.BYTE of a byte. -/
def pByteText (b : Byte) : List Char := "P.BYTE ".toList ++ hexByte0x b

/-- An operation as its mnemonic followed by its operands; a transition row is the P.BYTE of its byte. -/
def instrText : Instr → List Char
  | .csClr => "CS.CLR".toList
  | .csFold b => "CS.FOLD ".toList ++ hexByte0x b
  | .csum s => "CSUM ".toList ++ seqText0x s
  | .build msg ident reqLen =>
    "BUILD msg=".toList ++ seqText0x msg ++ ", id=".toList ++ hexByte0x ident ++ ", len=".toList ++
      Nat.toDigits 10 reqLen.toNat
  | .verify f => "VERIFY ".toList ++ frameText f
  | .ser f => "SER ".toList ++ frameText f
  | .deser buf => "DESER ".toList ++ seqText buf
  | .pInit => "P.INIT".toList
  | .pByte b => pByteText b
  | .pSync => pByteText Config.sentinel
  | .pSkip b => pByteText b
  | .pId b => pByteText b
  | .pLen b => pByteText b
  | .pLen0 => pByteText 0x00#8
  | .pPay b => pByteText b
  | .pPayl b => pByteText b
  | .pCsum b => pByteText b

/-- A transition's mnemonic as a comment. -/
def rowText (mnemonic : List Char) : List Char := " ; ".toList ++ mnemonic

/-- The comment of a line (R82: a transition mnemonic "may be written after a `P.BYTE` line as a comment"): a transition
row has one, an operation has none. DESIGN CHOICE, log entry 16. -/
def commentText : Instr → List Char
  | .csClr => []
  | .csFold _ => []
  | .csum _ => []
  | .build _ _ _ => []
  | .verify _ => []
  | .ser _ => []
  | .deser _ => []
  | .pInit => []
  | .pByte _ => []
  | .pSync => rowText "P.SYNC".toList
  | .pSkip _ => rowText "P.SKIP".toList
  | .pId _ => rowText "P.ID".toList
  | .pLen _ => rowText "P.LEN".toList
  | .pLen0 => rowText "P.LEN0".toList
  | .pPay _ => rowText "P.PAY".toList
  | .pPayl _ => rowText "P.PAYL".toList
  | .pCsum _ => rowText "P.CSUM".toList

/-- The name of a status. -/
def statusText : Status → List Char
  | .incomplete => "Incomplete".toList
  | .frameValid => "FrameValid".toList
  | .frameCorrupted => "FrameCorrupted".toList

/-- The name of an error (`30_encoding.md` R81). -/
def errorText : ErrorCode → List Char
  | .checksumMismatch => "ChecksumMismatch".toList
  | .truncatedInput => "TruncatedInput".toList
  | .oversizedPayload => "OversizedPayload".toList
  | .messageTooShort => "MessageTooShort".toList
  | .illegalOp => "IllegalOp".toList

/-- What stands after the arrow: nothing for an operation without a result. -/
def resultText : Result → List Char
  | .none => []
  | .done => []
  | .byte b => " => ".toList ++ hexByte0x b
  | .frame f => " => ".toList ++ frameText f
  | .verdict ok => " => ".toList ++ (if ok then "true".toList else "false".toList)
  | .seq s => " => ".toList ++ seqText s
  | .status st => " => ".toList ++ statusText st
  | .error e => " => error ".toList ++ errorText e

/-- One operation and its result, as one line. The spec does not say whether a transition's comment stands before or
after the result of its line; here it stands after it, so that the arrow is no part of the comment. DESIGN CHOICE, log
entry 16. -/
def lineText (i : Instr) (r : Result) : List Char := instrText i ++ resultText r ++ commentText i

end Sys2Proof.Machine
end

