-- ==== Sys2Proof/Tests/Slice0.lean ====
section
/-!
SUPPORT. Tests of the model. Expected values come from the spec: the encodings of `30_encoding.md` R76 and R84 written
out in bits, and the vectors V1 to V44 of `95_test_vectors.md`.
-/

namespace Sys2Proof.Tests

open Sys2Proof.Machine

/-- The result a single operation answers. -/
def answerOf (o : Host.Outcome State Fault Refusal) : Option Result :=
  match o with
  | .next s => some s.result
  | _ => none

/-- The fields of the frame an operation answers: start marker, id, length, meaningful bytes, checksum. -/
def frameOf (o : Host.Outcome State Fault Refusal) : Option (Byte × Byte × Byte × ByteSeq × Byte) :=
  match o with
  | .next s =>
    match s.result with
    | .frame f => some (f.startMarker, f.messageId, f.length, f.bytes, f.checksum)
    | _ => none
  | _ => none

/-- What the ports `acc_out`, `p_state`, `p_count` show after an operation. -/
def portsOf (o : Host.Outcome State Fault Refusal) : Option (Byte × BitVec 2 × BitVec 2 × BitVec 8) :=
  match o with
  | .next s => some (s.accOut, s.pStateOut, s.pCountOut.1, s.pCountOut.2)
  | _ => none

/-- A read of one field after an operation. -/
def readOf {α : Type} (get : State → α) (o : Host.Outcome State Fault Refusal) : Option α :=
  match o with
  | .next s => some (get s)
  | _ => none

/-- Whether an operation is the fault of `42_parser.md` R151. -/
def faultsAt (k : Key) (o : Host.Outcome State Fault Refusal) : Bool :=
  match o with
  | .fault (.noTransition k') => k = k'
  | _ => false

/-- Whether the step is refused for a sequence of `n` bytes. -/
def refusesLength (n : Nat) (o : Host.Outcome State Fault Refusal) : Bool :=
  match o with
  | .refused (.seqTooLong m) => n = m
  | _ => false

/-- A Frame value from its meaningful bytes, zero elsewhere. -/
def mkFrame (start ident len : Byte) (payload : ByteSeq) (checksum : Byte) : Frame :=
  { startMarker := start, messageId := ident, length := len, payload := cellsOf (fun i => payload.getD i 0),
    checksum := checksum }

/-- The parser in a sequencing state, with a frame buffer of id 07 and the given cells. -/
def parserAt (p : PState) (hdr : BitVec 2) (cur len : Byte) (cells : Memory) : State :=
  { State.reset with
    pstate := p, hdrCount := hdr, cursor := cur, pfStartMarker := 0x55, pfMessageId := 0x07, pfLength := len,
    payload := cells }

/-! ### Well-formedness: each check refuses an ill-formed term -/

theorem fits_replicate (n : Nat) : ByteSeq.fits (List.replicate n 0x00#8) = decide (n ≤ Config.seqMax) := by
  simp [ByteSeq.fits]

theorem test_wf_csum_too_long : Instr.WellFormed (.csum (List.replicate 65536 0x00#8)) = false :=
  (fits_replicate 65536).trans (by decide)

theorem test_wf_build_too_long : Instr.WellFormed (.build (List.replicate 65536 0x00#8) 0 0) = false :=
  (fits_replicate 65536).trans (by decide)

theorem test_wf_deser_too_long : Instr.WellFormed (.deser (List.replicate 65536 0x00#8)) = false :=
  (fits_replicate 65536).trans (by decide)

theorem test_wf_longest_csum : Instr.WellFormed (.csum (List.replicate 65535 0x00#8)) = true :=
  (fits_replicate 65535).trans (by decide)

theorem test_wf_skip_sentinel : Instr.WellFormed (.pSkip 0x55) = false := by decide

theorem test_wf_len_zero : Instr.WellFormed (.pLen 0x00) = false := by decide

/-- U14: a request the ports cannot express is refused. -/
theorem test_step_refuses_long_sequence :
    refusesLength 65536
      (step (State.reset.present { Inputs.request 2#4 with aSeq := List.replicate 65536 0x00#8 })) = true := by
  have h : decode { Inputs.request 2#4 with aSeq := List.replicate 65536 0x00#8 } = .error (.seqTooLong 65536) := by
    show decodeSeq (List.replicate 65536 0x00#8) _ = _
    rw [decodeSeq, fits_replicate, List.length_replicate]; rfl
  show refusesLength 65536 (stepOn { Inputs.request 2#4 with aSeq := List.replicate 65536 0x00#8 } State.reset) = true
  rw [stepOn, h]; rfl

/-! ### Decoding: words written out from the encodings of R76 and R84 -/

theorem test_decode_csClr : decodeTableWord 8 0b0000 = some .csClr := by decide
theorem test_decode_csFold : decode { Inputs.request 0b0001#4 with aByte := 0x48 } = .ok (.csFold 0x48) := by rfl
theorem test_decode_csum : decode { Inputs.request 0b0010#4 with aSeq := [0x07, 0x02] } = .ok (.csum [0x07, 0x02]) := by
  rfl
theorem test_decode_build :
    decode { Inputs.request 0b0011#4 with aSeq := [0x48, 0x69], aId := 0x07, aLen := 2 } =
      .ok (.build [0x48, 0x69] 0x07 2) := by rfl
theorem test_decode_verify : decodeTableWord 8 0b0100 = some (.verify Frame.zero) := by rfl
theorem test_decode_ser : decodeTableWord 8 0b0101 = some (.ser Frame.zero) := by rfl
theorem test_decode_deser : decode { Inputs.request 0b0110#4 with aSeq := [0x55] } = .ok (.deser [0x55]) := by rfl
theorem test_decode_pInit : decodeTableWord 8 0b0111 = some .pInit := by decide
theorem test_decode_pByte : decode { Inputs.request 0b1000#4 with aByte := 0xAB } = .ok (.pByte 0xAB) := by rfl
theorem test_decode_reserved : decode (Inputs.request 0b1001#4) = .error (.reservedOp 0b1001#4) := by rfl
theorem test_decode_pSync : decodeTableWord 16 0b10000001010101 = some .pSync := by decide
theorem test_decode_pSkip : decodeTableWord 16 0b10000010101011 = some (.pSkip 0xAB) := by decide
theorem test_decode_pId : decodeTableWord 16 0b10000100000111 = some (.pId 0x07) := by decide
theorem test_decode_pLen0 : decodeTableWord 16 0b10000100000000 = some .pLen0 := by decide
theorem test_decode_pPay : decodeTableWord 16 0b10001001001000 = some (.pPay 0x48) := by decide
theorem test_decode_pCsum : decodeTableWord 16 0b10001100100100 = some (.pCsum 0x24) := by decide

/-- P.LEN and P.PAYL share their words with P.ID and P.PAY; the rest of the key tells them apart (R84). -/
theorem test_decode_pLen :
    decodeKey { pstate := .readHeader, hdrCount := 2, cursor := 0, length := 0 } 0x02 = .ok (.pLen 0x02) ∧
      transitionWord { pstate := .readHeader, hdrCount := 2, cursor := 0, length := 0 } 0x02 = 0b10000100000010#14 := by
  decide

theorem test_decode_pPayl :
    decodeKey { pstate := .readPayload, hdrCount := 2, cursor := 1, length := 2 } 0x69 = .ok (.pPayl 0x69) ∧
      transitionWord { pstate := .readPayload, hdrCount := 2, cursor := 1, length := 2 } 0x69 = 0b10001001101001#14 := by
  decide

theorem test_decode_no_row :
    decodeKey { pstate := .readPayload, hdrCount := 2, cursor := 2, length := 2 } 0x69 =
      .error (.noRow { pstate := .readPayload, hdrCount := 2, cursor := 2, length := 2 }) := by decide

/-! ### Words as the first operation after reset -/

theorem test_first_csum : answerOf (step (State.reset.withFetchWord 8 0b0010)) = some (.byte 0) := by decide
theorem test_first_deser : answerOf (step (State.reset.withFetchWord 8 0b0110)) = some (.error .truncatedInput) := by
  decide
theorem test_first_reserved : answerOf (step (State.reset.withFetchWord 8 0b1010)) = some (.error .illegalOp) := by
  decide
theorem test_first_pSync :
    portsOf (step (State.reset.withFetchWord 16 0x2055)) = some (0, 0b01, 1, 0) := by decide
theorem test_first_pCsum : answerOf (step (State.reset.withFetchWord 16 0x2300)) = some (.status .frameValid) := by
  decide

/-! ### The checksum unit (V8 to V14a) -/

theorem test_csClr : portsOf (exec .csClr { State.reset with acc := 0x24 }) = some (0x00, 0, 0, 0) := by decide
/-- V11. -/
theorem test_csFold : portsOf (exec (.csFold 0x48) { State.reset with acc := 0x05 }) = some (0x4D, 0, 0, 0) := by decide
/-- R104's example and V8. -/
theorem test_csum : answerOf (exec (.csum [0x07, 0x02, 0x48, 0x69]) State.reset) = some (.byte 0x24) := by decide
theorem test_csum_empty : answerOf (exec (.csum []) State.reset) = some (.byte 0x00) := by decide

/-! ### The codec (V1, V15 to V33) -/

/-- V19, and V1. -/
theorem test_build_cuts_longer_message :
    frameOf (exec (.build [0x48, 0x69, 0x21] 0x07 2) State.reset) = some (0x55, 0x07, 0x02, [0x48, 0x69], 0x24) := by
  decide
/-- V18: both faults at once, and the short message alone. -/
theorem test_build_order_of_errors :
    answerOf (exec (.build (List.replicate 10 0) 0x01 300) State.reset) = some (.error .oversizedPayload) ∧
      answerOf (exec (.build [0x01] 0x07 2) State.reset) = some (.error .messageTooShort) := by decide
/-- V2 and V25. -/
theorem test_verify :
    answerOf (exec (.verify (mkFrame 0x55 0x07 0x02 [0x49, 0x69] 0x24)) State.reset) = some (.verdict false) ∧
      answerOf (exec (.verify (mkFrame 0x55 0x07 0x02 [0x49, 0x68] 0x24)) State.reset) = some (.verdict true) := by
  decide
/-- V23: the start marker is not checked; V24: cells beyond the length are not read. -/
theorem test_verify_reads_nothing_else :
    answerOf (exec (.verify (mkFrame 0x00 0x07 0x02 [0x48, 0x69, 0xFF, 0xEE] 0x24)) State.reset) =
      some (.verdict true) := by decide
/-- V29. -/
theorem test_ser :
    answerOf (exec (.ser (mkFrame 0x55 0x07 0x02 [0x49, 0x69] 0x24)) State.reset) =
      some (.seq [0x55, 0x07, 0x02, 0x49, 0x69, 0x24]) := by decide
/-- V30 and V32: trailing bytes are ignored and the first byte is not tested. -/
theorem test_deser :
    frameOf (exec (.deser [0x00, 0x07, 0x02, 0x48, 0x69, 0x24, 0x99, 0x98]) State.reset) =
      some (0x00, 0x07, 0x02, [0x48, 0x69], 0x24) := by decide
/-- V31. -/
theorem test_deser_truncated :
    answerOf (exec (.deser [0x55, 0x07, 0x00]) State.reset) = some (.error .truncatedInput) ∧
      answerOf (exec (.deser [0x55, 0x07, 0x02, 0x48, 0x69]) State.reset) = some (.error .truncatedInput) := by decide

/-! ### The parser (V34, V35, V39, V4) -/

/-- V39. -/
theorem test_pInit :
    portsOf (exec .pInit (parserAt .readPayload 2 2 5 [(0, 0x01), (1, 0x02)])) = some (0, 0b00, 0, 0) := by decide
/-- V34, one step each. -/
theorem test_pByte_skip :
    portsOf (exec (.pByte 0xAB) State.reset) = some (0, 0b00, 0, 0) ∧
      answerOf (exec (.pSkip 0xAB) State.reset) = some (.status .incomplete) := by decide
theorem test_pSync : portsOf (exec .pSync State.reset) = some (0, 0b01, 1, 0) := by decide
theorem test_pId :
    portsOf (exec (.pId 0x55) (parserAt .readHeader 1 0 0 [])) = some (0, 0b01, 2, 0) ∧
      readOf State.pfMessageId (exec (.pByte 0x55) (parserAt .readHeader 1 0 0 [])) = some 0x55 := by decide
theorem test_pLen :
    portsOf (exec (.pLen 0x02) (parserAt .readHeader 2 0 0 [])) = some (0, 0b10, 2, 0) := by decide
theorem test_pLen0 : portsOf (exec .pLen0 (parserAt .readHeader 2 3 9 [])) = some (0, 0b11, 2, 0) := by decide
theorem test_pPay :
    portsOf (exec (.pPay 0x48) (parserAt .readPayload 2 0 2 [])) = some (0, 0b10, 2, 1) ∧
      readOf State.payload (exec (.pByte 0x48) (parserAt .readPayload 2 0 2 [(1, 0x11)])) =
        some [(0, 0x48), (1, 0x11)] := by decide
/-- V38: the largest cursor; cell 254 is the last written. -/
theorem test_pPayl_largest :
    portsOf (exec (.pPayl 0xFE) (parserAt .readPayload 2 254 255 [])) = some (0, 0b11, 2, 255) ∧
      readOf State.payload (exec (.pByte 0xFE) (parserAt .readPayload 2 254 255 [(0, 0)])) =
        some [(0, 0), (254, 0xFE)] := by decide
theorem test_pCsum :
    answerOf (exec (.pCsum 0x24) (parserAt .verifyChecksum 2 2 2 [(0, 0x48), (1, 0x69)])) =
      some (.status .frameValid) ∧
    answerOf (exec (.pByte 0x25) (parserAt .verifyChecksum 2 2 2 [(0, 0x48), (1, 0x69)])) =
      some (.status .frameCorrupted) := by decide
/-- R151, U5. -/
theorem test_pByte_no_meaning :
    faultsAt { pstate := .readHeader, hdrCount := 0, cursor := 0, length := 0 }
      (exec (.pByte 0x01) (parserAt .readHeader 0 0 0 [])) = true ∧
    faultsAt { pstate := .waitStart, hdrCount := 3, cursor := 0, length := 0 }
      (exec (.pByte 0x55) (parserAt .waitStart 3 0 0 [])) = true := by decide

/-! ### The textual form (R82's examples) -/

theorem test_text_csum :
    lineText (.csum [0x07, 0x02, 0x48, 0x69]) (.byte 0x24) =
      "CSUM [0x07, 0x02, 0x48, 0x69] => 0x24".toList := by decide
theorem test_text_row : lineText .pSync (.status .incomplete) = "P.BYTE 0x55 => Incomplete ; P.SYNC".toList := by decide
theorem test_text_build :
    instrText (.build [0x48, 0x69] 0x07 2) = "BUILD msg=[0x48, 0x69], id=0x07, len=2".toList := by decide

/-! ### Witnesses: for each statement with hypotheses, a state and operands that meet them all -/

/-- A request P.BYTE 55 waiting on the ports of a reset block. -/
def requested : State := State.reset.present { Inputs.request 0b1000#4 with aByte := 0x55 }

/-- A request of the lowest and of the highest reserved code, a request under reset, and a step without a request. -/
def presented (r : Inputs) : State := State.reset.present r

theorem wit_ResetInputWinsOverRequest :
    (presented { Inputs.request 0b1000#4 with rst := true }).inputs = [{ Inputs.request 0b1000#4 with rst := true }] ∧
      ({ Inputs.request 0b1000#4 with rst := true } : Inputs).rst = true := ⟨rfl, rfl⟩

theorem wit_NoRequestChangesNothing :
    State.reset.inputs = [] ∧
      ((presented Inputs.idle).inputs = [Inputs.idle] ∧ Inputs.idle.rst = false ∧ Inputs.idle.opValid = false) :=
  ⟨rfl, rfl, rfl, rfl⟩

theorem wit_ReservedCodeRaisesIllegalOp :
    ((presented (Inputs.request 9#4)).inputs = [Inputs.request 9#4] ∧ (Inputs.request 9#4).rst = false ∧
      (Inputs.request 9#4).opValid = true ∧ 9 ≤ (Inputs.request 9#4).op.toNat) ∧
    ((presented (Inputs.request 15#4)).inputs = [Inputs.request 15#4] ∧ 9 ≤ (Inputs.request 15#4).op.toNat) :=
  ⟨⟨rfl, rfl, rfl, by decide⟩, rfl, by decide⟩

theorem wit_StepRunsDecodedRequest :
    requested.inputs = [{ Inputs.request 0b1000#4 with aByte := 0x55 }] ∧
      decode { Inputs.request 0b1000#4 with aByte := 0x55 } = .ok (.pByte 0x55) ∧
      Instr.WellFormed (.pByte 0x55) = true := ⟨rfl, rfl, rfl⟩

theorem wit_PortRunFollowsTrace :
    (∀ i ∈ [Instr.pSync, Instr.csFold 7], i.WellFormed = true) ∧
      ∃ t rs, trace [.pSync, .csFold 7] { State.reset with inputs := [] } = .next (t, rs) :=
  ⟨by decide, _, _, rfl⟩

theorem wit_DecodeInvertsEncode :
    Instr.WellFormed (.pLen 0xFF) = true ∧ Instr.WellFormed (.build [0x48] 0x07 1) = true := by decide

theorem wit_EncodeInvertsDecode : decode { Inputs.request 0b0010#4 with aSeq := [0x07] } = .ok (.csum [0x07]) := rfl

theorem wit_TransitionRowsCompleteAndExclusive :
    State.reset.Sequenced ∧ (parserAt .readHeader 1 0 0 []).Sequenced ∧
      (parserAt .readPayload 2 254 255 []).Sequenced ∧ (parserAt .verifyChecksum 2 0 0 []).Sequenced :=
  ⟨by decide, by decide, by decide, by decide⟩

theorem wit_XorfoldLaws : ([0x01#8, 0x02#8] : ByteSeq).Perm [0x02#8, 0x01#8] := List.Perm.swap _ _ _

theorem wit_decode_hypotheses :
    (Inputs.request 0b0000#4).op = 0b0000#4 ∧ (Inputs.request 0b0001#4).op = 0b0001#4 ∧
      (Inputs.request 0b0010#4).op = 0b0010#4 ∧ (Inputs.request 0b0010#4).aSeq.length ≤ 65535 ∧
      (Inputs.request 0b0011#4).op = 0b0011#4 ∧ (Inputs.request 0b0011#4).aSeq.length ≤ 65535 ∧
      (Inputs.request 0b0110#4).op = 0b0110#4 ∧ (Inputs.request 0b0110#4).aSeq.length ≤ 65535 ∧
      (Inputs.request 0b0100#4).op = 0b0100#4 ∧ (Inputs.request 0b0101#4).op = 0b0101#4 ∧
      (Inputs.request 0b0111#4).op = 0b0111#4 ∧ (Inputs.request 0b1000#4).op = 0b1000#4 := by decide

theorem wit_AccumulatorFollowsFolds :
    Instr.csClr ∉ [Instr.csFold 7, Instr.pSync] ∧
      ∃ t rs, trace [.csFold 7, .pSync] State.reset = .next (t, rs) := ⟨by decide, _, _, rfl⟩

theorem wit_CodesOfStatesStatusesErrors :
    Result.done ≠ .none ∧ Result.done.errorOf = none ∧
      (Result.error .illegalOp) ≠ .none ∧ (Result.error .illegalOp).errorOf = some .illegalOp ∧
      (Result.verdict false) ≠ .none ∧ (Result.verdict false).errorOf = some .checksumMismatch := by decide

theorem wit_SpecWordsDecode :
    Transition.ident.key.pstate = .readHeader ∧ Transition.ident.key.hdrCount = 1#2 ∧
      Transition.len0.key.pstate = .readHeader ∧ Transition.len0.key.hdrCount = 2#2 := by decide

theorem wit_StreamCheckAgreesWithVerify :
    (∃ t rs, trace (checksumOfByFold ([0x07, 0x00] ++ (mkFrame 0x55 0x07 0x00 [] 0x07).payload.toList.take 0))
      State.reset = .next (t, rs)) ∧
    (∃ u qs, trace (checksumOfByFold ([0x07, 0x00] ++ (mkFrame 0x55 0x07 0x00 [] 0x07).payload.toList.take 0 ++ [0x07]))
      State.reset = .next (u, qs)) := ⟨⟨_, _, rfl⟩, ⟨_, _, rfl⟩⟩

/-- The boundaries of BUILD's two checks: 255 and 256 requested; a message of exactly and of one less than that. -/
theorem wit_BuildAnswersFrame :
    (255#16).toNat ≤ 255 ∧ (255#16).toNat ≤ (List.replicate 255 0x00#8).length ∧
      (0#16).toNat ≤ 255 ∧ (0#16).toNat ≤ ([] : ByteSeq).length :=
  ⟨by decide, by rw [List.length_replicate]; decide, by decide, by decide⟩

theorem wit_BuildRejectsOversizedThenShort :
    255 < (256#16).toNat ∧ (255#16).toNat ≤ 255 ∧ (List.replicate 254 0x00#8).length < (255#16).toNat :=
  ⟨by decide, by decide, by rw [List.length_replicate]; decide⟩

theorem wit_BuiltFrameVerifies :
    ∃ f, exec (.build [0x48, 0x69] 0x07 2) State.reset = .next { State.reset with result := .frame f } := ⟨_, rfl⟩

theorem wit_VerifyReadsNothingElse :
    (mkFrame 0x55 0x07 0x00 [0x11] 0x07).messageId = (mkFrame 0x00 0x07 0x00 [0x22] 0x07).messageId ∧
      (mkFrame 0x55 0x07 0x00 [0x11] 0x07).length = (mkFrame 0x00 0x07 0x00 [0x22] 0x07).length ∧
      (mkFrame 0x55 0x07 0x00 [0x11] 0x07).checksum = (mkFrame 0x00 0x07 0x00 [0x22] 0x07).checksum ∧
      (∀ i, i < (mkFrame 0x55 0x07 0x00 [0x11] 0x07).length.toNat →
        (mkFrame 0x55 0x07 0x00 [0x11] 0x07).payload[i]? = (mkFrame 0x00 0x07 0x00 [0x22] 0x07).payload[i]?) :=
  ⟨rfl, rfl, rfl, fun i hi => absurd hi (Nat.not_lt_zero i)⟩

theorem wit_DeserDecodesCompleteBuffer :
    ([0x55, 0x07, 0x00, 0x07] : ByteSeq)[2]? = some 0x00#8 ∧
      4 + (0x00#8).toNat ≤ ([0x55, 0x07, 0x00, 0x07] : ByteSeq).length := by decide

theorem wit_DeserRejectsTruncatedBuffer :
    ([0x55, 0x07] : ByteSeq).length < 3 ∧ ([0x55, 0x07, 0x00] : ByteSeq)[2]? = some 0x00#8 ∧
      ([0x55, 0x07, 0x00] : ByteSeq).length < 4 + (0x00#8).toNat := by decide

theorem wit_SerAndDeserAreInverse :
    ∃ f, exec (.deser [0x55, 0x07, 0x00, 0x07]) State.reset = .next { State.reset with result := .frame f } := ⟨_, rfl⟩

theorem wit_MessageSurvivesEncodeDecode : (2#16).toNat ≤ 255 ∧ (2#16).toNat ≤ ([0x48, 0x69] : ByteSeq).length := by
  decide

/-- V1 with the payload byte 48 changed to 49 (V2). -/
theorem wit_OneByteChangeIsRejected :
    ∃ u f, encodeMessage [0x48, 0x69] 0x07 2 State.reset =
        .next (u, [.frame f, .seq [0x55, 0x07, 0x02, 0x48, 0x69, 0x24]]) ∧
      3 < ([0x55, 0x07, 0x02, 0x48, 0x69, 0x24] : ByteSeq).length ∧
      ([0x55, 0x07, 0x02, 0x48, 0x69, 0x24] : ByteSeq)[3]? ≠ some 0x49#8 := ⟨_, _, rfl, by decide, by decide⟩

theorem wit_DetectionIsBitParity :
    exec (.verify (mkFrame 0x55 0x07 0x02 [0x48, 0x69] 0x24)) State.reset =
        .next { State.reset with result := .verdict true } ∧
      (mkFrame 0x55 0x07 0x02 [0x49, 0x69] 0x24).length = (mkFrame 0x55 0x07 0x02 [0x48, 0x69] 0x24).length :=
  ⟨rfl, rfl⟩

theorem wit_PByteTakesTheMatchingRow :
    State.reset.HasTransition ∧ (parserAt .readHeader 2 0 0 []).HasTransition ∧
      (parserAt .readPayload 2 0 1 []).HasTransition := by decide

theorem wit_PByteFaultsWithoutMeaning :
    (parserAt .verifyChecksum 3 0 0 []).hdrCount = 3#2 ∧
      ((parserAt .readHeader 0 0 0 []).pstate = .readHeader ∧ (parserAt .readHeader 0 0 0 []).hdrCount ≠ 1#2 ∧
        (parserAt .readHeader 0 0 0 []).hdrCount ≠ 2#2) ∧
      ((parserAt .readPayload 2 0 0 []).pstate = .readPayload ∧
        (parserAt .readPayload 2 0 0 []).pfLength.toNat ≤ (parserAt .readPayload 2 0 0 []).cursor.toNat) ∧
      State.reset.Sequenced ∧
      (∃ f, exec (.pByte 0x00) (parserAt .verifyChecksum 3 0 0 []) = .fault f) ∧
      (presented { Inputs.idle with rst := true }).inputs.head? = some { Inputs.idle with rst := true } :=
  ⟨by decide, ⟨by decide, by decide, by decide⟩, ⟨by decide, by decide⟩, by decide, ⟨_, rfl⟩, rfl⟩

theorem wit_PSyncFindsSentinel : State.reset.pstate = .waitStart ∧ State.reset.hdrCount ≠ 3#2 := by decide

theorem wit_PSkipDropsStrayByte :
    State.reset.pstate = .waitStart ∧ State.reset.hdrCount ≠ 3#2 ∧ 0x54#8 ≠ 0x55#8 := by decide

theorem wit_PIdStoresMessageId :
    (parserAt .readHeader 1 0 0 []).pstate = .readHeader ∧ (parserAt .readHeader 1 0 0 []).hdrCount = 1#2 := by decide

theorem wit_PLenStartsPayload :
    (parserAt .readHeader 2 0 0 []).pstate = .readHeader ∧ (parserAt .readHeader 2 0 0 []).hdrCount = 2#2 ∧
      0x01#8 ≠ 0x00#8 := by decide

theorem wit_PLen0GoesToChecksum :
    (parserAt .readHeader 2 7 9 []).pstate = .readHeader ∧ (parserAt .readHeader 2 7 9 []).hdrCount = 2#2 := by decide

theorem wit_PPayStoresPayloadByte :
    (parserAt .readPayload 2 253 255 []).pstate = .readPayload ∧ (parserAt .readPayload 2 253 255 []).hdrCount ≠ 3#2 ∧
      (parserAt .readPayload 2 253 255 []).cursor.toNat + 1 < (parserAt .readPayload 2 253 255 []).pfLength.toNat := by
  decide

theorem wit_PPaylStoresLastByte :
    (parserAt .readPayload 2 254 255 []).pstate = .readPayload ∧ (parserAt .readPayload 2 254 255 []).hdrCount ≠ 3#2 ∧
      (parserAt .readPayload 2 254 255 []).cursor.toNat + 1 = (parserAt .readPayload 2 254 255 []).pfLength.toNat := by
  decide

theorem wit_PCsumCompletesFrame :
    (parserAt .verifyChecksum 2 0 0 []).pstate = .verifyChecksum ∧ (parserAt .verifyChecksum 2 0 0 []).hdrCount ≠ 3#2 := by
  decide

theorem wit_RowsRefuseWhereAnotherIsSelected :
    State.reset.HasTransition ∧ Transition.RowMatches .sync State.reset.key 0x55#8 ∧
      Transition.pay ≠ Transition.sync ∧ (Transition.pay = .sync → 0x55#8 = 0x55#8) ∧
      (Transition.pay = .len0 → 0x55#8 = 0x00#8) :=
  ⟨by decide, ⟨rfl, rfl⟩, by decide, by decide, by decide⟩

theorem wit_StepKeepsSequenced :
    requested.Sequenced ∧ (∃ t, exec (.pByte 0x55) State.reset = .next t) ∧ ∃ t, step requested = .next t :=
  ⟨by decide, ⟨_, rfl⟩, ⟨_, rfl⟩⟩

theorem wit_ReachedStatesAreSequenced :
    (∃ t, Host.Core.run Sys2Proof.core 1 { State.reset with inputs := requested.inputs } = .next t) ∧
      (∃ s0 t, exec .pInit (parserAt .readHeader 0 0 0 []) = .next s0 ∧
        Host.Core.run Sys2Proof.core 1 { s0 with inputs := requested.inputs } = .next t) :=
  ⟨⟨_, rfl⟩, ⟨_, _, rfl, rfl⟩⟩

theorem wit_StepKeepsCanonicalPayload :
    (parserAt .readPayload 2 0 2 [(1, 0x11)]).Canonical ∧
      (∃ t, exec (.pByte 0x48) (parserAt .readPayload 2 0 2 [(1, 0x11)]) = .next t) ∧ ∃ t, step requested = .next t :=
  ⟨by decide, ⟨_, rfl⟩, ⟨_, rfl⟩⟩

/-- The parser at the last payload byte, the byte 69 requested. -/
def atLastByte : State :=
  (parserAt .readPayload 2 1 2 [(0, 0x48)]).present { Inputs.request 0b1000#4 with aByte := 0x69 }

theorem wit_StepKeepsWrittenCells :
    atLastByte.Sequenced ∧ (∀ i < atLastByte.cursor.toNat, (Memory.read atLastByte.payload i).isSome) ∧
      ∃ t, step atLastByte = .next t := ⟨by decide, by decide, ⟨_, rfl⟩⟩

theorem wit_PayloadWritesStayBelowLength :
    ∃ t, step ((parserAt .readPayload 2 1 2 [(0, 0x48), (1, 0x00)]).present
        { Inputs.request 0b1000#4 with aByte := 0x69 }) = .next t ∧
      t.readCell 1 ≠ (parserAt .readPayload 2 1 2 [(0, 0x48), (1, 0x00)]).readCell 1 := ⟨_, rfl, by decide⟩

theorem wit_CountersDoNotWrap : atLastByte.Sequenced ∧ ∃ t, step atLastByte = .next t := ⟨by decide, ⟨_, rfl⟩⟩

theorem wit_VerdictReadsWrittenCellsOnly :
    (parserAt .verifyChecksum 2 2 2 [(0, 0x48), (1, 0x69)]).Sequenced ∧
      (∀ i < (2 : Nat), (Memory.read (parserAt .verifyChecksum 2 2 2 [(0, 0x48), (1, 0x69)]).payload i).isSome) ∧
      (parserAt .verifyChecksum 2 2 2 [(0, 0x48), (1, 0x69)]).pstate = .verifyChecksum := by decide

theorem wit_UnitsAreIndependent :
    isParserOp (.pByte 0x55) = true ∧ State.reset.parser = ({ State.reset with acc := 1 } : State).parser ∧
      (∃ t, exec (.pByte 0x55) State.reset = .next t) ∧
      isParserOp (.csFold 1) = false ∧ State.reset.acc = (parserAt .readHeader 1 0 0 []).acc ∧
      isPure (.csum [0x07]) = true :=
  ⟨rfl, rfl, ⟨_, rfl⟩, rfl, rfl, rfl⟩

theorem wit_ErrorsOfEachOperation :
    answerOf (exec (.build [] 0 1) State.reset) = some (.error .messageTooShort) ∧
      answerOf (exec (.verify (mkFrame 0x55 0x07 0x00 [] 0x06)) State.reset) = some (.verdict false) ∧
      answerOf (exec (.deser []) State.reset) = some (.error .truncatedInput) ∧
      answerOf (exec (.pByte 0x06) (parserAt .verifyChecksum 2 0 0 [])) = some (.status .frameCorrupted) := by decide

theorem wit_BlockNeverHalts : requested.Sequenced ∧ ∀ r ∈ requested.inputs, expressible r = true := by decide

/-- The boundaries of the payload length, 0 and 255. -/
theorem wit_WholeFrameGivesItsVerdict :
    State.reset.pstate = .waitStart ∧ State.reset.hdrCount ≠ 3#2 ∧ ([] : ByteSeq).length ≤ 255 ∧
      (List.replicate 255 0x55#8).length ≤ 255 ∧
      ([Instr.csClr] ++ feed (wireBytes 0x07 [] 0x07)).filter isParserOp = feed (wireBytes 0x07 [] 0x07) :=
  ⟨rfl, by decide, by decide, by rw [List.length_replicate], by decide⟩

theorem wit_ParserAgreesWithDirectPath :
    (mkFrame 0x55 0x07 0x02 [0x48, 0x69] 0x24).startMarker = 0x55#8 ∧ State.reset.pstate = .waitStart ∧
      State.reset.hdrCount ≠ 3#2 := ⟨rfl, rfl, by decide⟩

theorem wit_LengthByteFixesConsumption :
    (parserAt .readHeader 2 0 0 []).pstate = .readHeader ∧ (parserAt .readHeader 2 0 0 []).hdrCount = 2#2 ∧
      ([0x10] : ByteSeq).length = (0x00#8).toNat + 1 := by decide

theorem wit_StrayBytesAreSkipped :
    State.reset.pstate = .waitStart ∧ State.reset.hdrCount ≠ 3#2 ∧ 0x55#8 ∉ ([0xAB, 0xCD] : ByteSeq) := by decide

theorem wit_TruncatedFrameStaysIncomplete :
    State.reset.pstate = .waitStart ∧ State.reset.hdrCount ≠ 3#2 ∧ ([0x48, 0x69] : ByteSeq).length ≤ 255 ∧
      0 < 5 ∧ 5 < 4 + ([0x48, 0x69] : ByteSeq).length := by decide

theorem wit_CompletedFrameStaysReadable :
    (∃ t, exec (.pByte 0x07) (parserAt .verifyChecksum 2 0 0 []) = .next t ∧ t.result = .status .frameValid) ∧
      ((parserAt .waitStart 0 0 0 []).pstate = .waitStart ∧ (parserAt .waitStart 0 0 0 []).pfStartMarker = 0x55#8 ∧
        ∃ t, exec (.pByte 0x55) (parserAt .waitStart 0 0 0 []) = .next t) ∧
      ((parserAt .readHeader 1 0 0 []).pstate = .readHeader ∧ (parserAt .readHeader 1 0 0 []).hdrCount = 1#2 ∧
        ∃ t, exec (.pByte 0x08) (parserAt .readHeader 1 0 0 []) = .next t) :=
  ⟨⟨_, rfl, rfl⟩, ⟨rfl, rfl, _, rfl⟩, ⟨rfl, rfl, _, rfl⟩⟩

/-- The last payload byte of one frame over two different older buffers; and a run of one step from reset. -/
theorem wit_UnspecifiedFrameBufferNeverReachesResults :
    (atLastByte.Sequenced ∧
      atLastByte.SameFrameSoFar { atLastByte with payload := [(0, 0x48), (1, 0xAA)], pfChecksum := 0xAA } ∧
      ∃ t, step atLastByte = .next t) ∧
    (requested.Sequenced ∧ requested.pstate = .waitStart ∧
      ∃ t, Host.Core.run Sys2Proof.core 1 requested = .next t) :=
  ⟨⟨by decide, ⟨rfl, rfl, rfl, rfl, rfl, fun _ => rfl, fun _ => ⟨rfl, fun i hi => by
      have h : i = 0 := Nat.lt_one_iff.mp hi
      subst h; rfl⟩⟩, ⟨_, rfl⟩⟩, ⟨by decide, rfl, ⟨_, rfl⟩⟩⟩

end Sys2Proof.Tests
end

section
/-!
PROOFS. Driving the ports performs the operations (`00_scope.md` R6, `20_memory.md` R57). Three facts carry it: a
decodable request is performed by the step that takes it; the request driven for an instruction performs whatever the
instruction performs, a transition row standing for P.BYTE of its byte (`30_encoding.md` R84); and no operation reads or
writes the queue of coming inputs (log entry 1).
-/

namespace Sys2Proof.Machine

/-! ### The step on a decodable request -/

/-- The step dispatches on the decoded request alone; that the operation is well-formed is not needed. -/
theorem step_of_decode (s : State) (r : Inputs) (rest : List Inputs) (i : Instr) (hin : s.inputs = r :: rest)
    (hrst : r.rst = false) (hvalid : r.opValid = true) (hdec : decode r = .ok i) :
    step s = exec i { s with inputs := rest } := by
  simp only [step, State.fetch_cons s r rest hin, stepOn, hrst, hvalid, hdec, if_true, Bool.false_eq_true, if_false]

/-- Settles O5. -/
theorem stepRunsDecodedRequest : Obligations.StepRunsDecodedRequest :=
  fun s r rest i hin hrst hvalid hdec _ => step_of_decode s r rest i hin hrst hvalid hdec

/-! ### The request driven for an instruction -/

/-- The operation that the request driven for an instruction selects: a transition row is driven as P.BYTE of its input
byte (`30_encoding.md` R84). Tied to the decoder by `decode_encode_inputs`. -/
def requestedOp : Instr → Instr
  | .pSync => .pByte Config.sentinel
  | .pSkip b => .pByte b
  | .pId b => .pByte b
  | .pLen b => .pByte b
  | .pLen0 => .pByte 0x00#8
  | .pPay b => .pByte b
  | .pPayl b => .pByte b
  | .pCsum b => .pByte b
  | i => i

theorem decodeSeq_of_fits (s : ByteSeq) (i : Instr) (h : ByteSeq.fits s = true) : decodeSeq s i = .ok i :=
  if_pos h

/-- Only an operand sequence can make the decoder reject what the host drives for an instruction. -/
theorem decode_encode_inputs (i : Instr) (h : i.WellFormed = true) :
    decode (encode i).inputs = .ok (requestedOp i) := by
  cases i with
  | csum s => exact decodeSeq_of_fits s _ h
  | build msg ident reqLen => exact decodeSeq_of_fits msg _ h
  | deser buf => exact decodeSeq_of_fits buf _ h
  | _ => rfl

theorem encode_inputs_rst (i : Instr) : (encode i).inputs.rst = false := by
  cases i <;> rfl

theorem encode_inputs_opValid (i : Instr) : (encode i).inputs.opValid = true := by
  cases i <;> rfl

/-! ### A transition row and P.BYTE of its byte -/

/-- The rows that carry no byte, P.SYNC and P.LEN0, stand for the one byte their condition admits. -/
theorem requestedOp_toInstr_of_row (t : Transition) (k : Key) (b : Byte) (h : t.RowMatches k b) :
    requestedOp (t.toInstr b) = .pByte b := by
  cases t with
  | sync => obtain ⟨_, rfl⟩ := h; rfl
  | len0 => obtain ⟨_, _, rfl⟩ := h; rfl
  | _ => rfl

/-- Where a row matches, the row as an instruction performs its transition. -/
theorem exec_toInstr_of_row (s : State) (b : Byte) (t : Transition) (h3 : s.hdrCount ≠ 3#2)
    (h : t.RowMatches s.key b) : exec (t.toInstr b) s = .next (s.take t b) := by
  have hsel : execRow t b s = .next (s.take t b) := by
    simp only [execRow, (transitionOf_eq_some_iff s.key b t).2 ⟨h3, h⟩, if_true]
  cases t with
  | sync => obtain ⟨_, rfl⟩ := h; exact hsel
  | len0 => obtain ⟨_, _, rfl⟩ := h; exact hsel
  | _ => exact hsel

theorem requestedOp_of_not_parserOp (i : Instr) (h : isParserOp i = false) : requestedOp i = i := by
  revert h
  cases i <;> simp [isParserOp, requestedOp]

/-- What an instruction performs, the request driven for it performs. The converse fails: a row is refused where P.BYTE
selects another. -/
theorem exec_requestedOp_of_next (i : Instr) (s t : State) (h : exec i s = .next t) :
    exec (requestedOp i) s = .next t := by
  cases hi : isParserOp i with
  | false => rwa [requestedOp_of_not_parserOp i hi]
  | true =>
    obtain ⟨rfl, rfl⟩ | ⟨tr, b, h3, hrow, rfl, rfl | rfl⟩ := exec_parser_next i s t hi h
    · exact h
    · exact h
    · rw [requestedOp_toInstr_of_row tr s.key b hrow, exec_pByte_of_row s b tr h3 hrow]

/-! ### Operations and the queue of coming inputs -/

theorem State.take_withInputs (s : State) (t : Transition) (b : Byte) (q : List Inputs) :
    ({ s with inputs := q } : State).take t b = { s.take t b with inputs := q } := by
  cases t <;> rfl

theorem csClr_or_csFold_of_not_parserOp_not_pure (i : Instr) (hi : isParserOp i = false) (hp : isPure i = false) :
    i = .csClr ∨ ∃ b, i = .csFold b := by
  revert hi hp
  cases i <;> simp [isParserOp, isPure]

/-- No operation reads the queue: over another queue it does the same to everything else. -/
theorem exec_withInputs (i : Instr) (s t : State) (q : List Inputs) (h : exec i s = .next t) :
    exec i { s with inputs := q } = .next { t with inputs := q } := by
  cases hi : isParserOp i with
  | true =>
    obtain ⟨rfl, rfl⟩ | ⟨tr, b, h3, hrow, rfl, rfl | rfl⟩ := exec_parser_next i s t hi h
    · rfl
    · rw [exec_pByte_of_row { s with inputs := q } b tr h3 hrow, State.take_withInputs]
    · rw [exec_toInstr_of_row { s with inputs := q } b tr h3 hrow, State.take_withInputs]
  | false =>
    cases hp : isPure i with
    | true =>
      obtain ⟨r, hr⟩ := exec_pure_next i hp
      rw [hr] at h ⊢
      cases h; rfl
    | false =>
      obtain rfl | ⟨b, rfl⟩ := csClr_or_csFold_of_not_parserOp_not_pure i hi hp
      · cases h; rfl
      · cases h; rfl

/-- No operation writes the queue: this is `exec_withInputs` over the queue that is there already. -/
theorem exec_inputs (i : Instr) (s t : State) (h : exec i s = .next t) : t.inputs = s.inputs := by
  have hsame : exec i s = .next { t with inputs := s.inputs } := exec_withInputs i s t s.inputs h
  rw [h] at hsame
  cases t
  cases hsame
  rfl

/-! ### Runs -/

theorem trace_cons_next (i : Instr) (is : List Instr) (s t : State) (rs : List Result)
    (h : trace (i :: is) s = .next (t, rs)) :
    ∃ u rs', exec i s = .next u ∧ trace is u = .next (t, rs') ∧ rs = u.result :: rs' := by
  simp only [trace] at h
  split at h
  · next u hu =>
    split at h
    · next t' rs' ht => cases h; exact ⟨u, rs', hu, ht, rfl⟩
    · cases h
    · cases h
  · cases h
  · cases h

theorem run_succ_of_step (M : Host.Core) (k : Nat) (s s' : M.State) (h : M.step s = .next s') :
    M.run (k + 1) s = M.run k s' := by
  rw [Host.Core.run, h]

theorem core_run_succ_of_step (k : Nat) (s s' : State) (h : step s = .next s') :
    Host.Core.run Sys2Proof.core (k + 1) s = Host.Core.run Sys2Proof.core k s' :=
  run_succ_of_step Sys2Proof.core k s s' h

/-- One step on the request driven for an instruction does what the instruction does, and takes that request. -/
theorem step_of_encode (i : Instr) (s t : State) (q : List Inputs) (hwf : i.WellFormed = true)
    (h : exec i s = .next t) :
    step { s with inputs := (encode i).inputs :: q } = .next { t with inputs := q } := by
  rw [step_of_decode _ _ q _ rfl (encode_inputs_rst i) (encode_inputs_opValid i) (decode_encode_inputs i hwf)]
  exact exec_withInputs _ s t q (exec_requestedOp_of_next i s t h)

/-- Settles O6, by induction on the list of operations: the first step takes the first request, and the rest of the
queue is untouched by the operation it performs. -/
theorem portRunFollowsTrace : Obligations.PortRunFollowsTrace := by
  intro is
  induction is with
  | nil =>
    intro s t rest rs _ htrace
    cases htrace
    rfl
  | cons i is ih =>
    intro s t rest rs hwf htrace
    obtain ⟨hi, his⟩ := List.forall_mem_cons.1 hwf
    obtain ⟨u, rs', hexec, hrest, -⟩ := trace_cons_next i is _ t rs htrace
    have hqueue : u.inputs = rest := exec_inputs i _ u hexec
    subst hqueue
    have hstep := step_of_encode i _ u (is.map (fun i => (encode i).inputs) ++ u.inputs) hi hexec
    exact (core_run_succ_of_step is.length _ _ hstep).trans (ih u t u.inputs rs' his hrest)

end Sys2Proof.Machine
end

section
/-!
PROOFS. The reachable states of the parser and what has been written when a verdict is given (`10_state.md` R32, R33).
The step lemmas turn on one reading of R33 per parser state, and on one principle: a property of the parser's registers
holds after every operation and every step when re-arming and the eight transitions keep it. That no power-up value
reaches a result is a statement about two runs, so there the facts are said for two states at once.
-/

namespace Sys2Proof.Machine

/-! ### The payload buffer -/

theorem Memory.read_write (m : Memory) (i : Nat) (v : Byte) (j : Nat) :
    Memory.read (Memory.write m i v) j = if j = i then some v else Memory.read m j := by
  induction m with
  | nil => simp only [Memory.write, Memory.read, eq_comm]
  | cons c m ih =>
    obtain ⟨a, b⟩ := c
    simp only [Memory.write]
    split
    · simp only [Memory.read, eq_comm]
    · split
      · next hia =>
        subst hia
        by_cases hj : j = i
        · simp [Memory.read, hj]
        · simp [Memory.read, hj, Ne.symm hj]
      · next hia =>
        simp only [Memory.read, ih]
        by_cases hj : j = i
        · simp [hj, Ne.symm hia]
        · simp [hj]

theorem State.read_storePayload (s : State) (b : Byte) (i : Nat) :
    Memory.read (s.storePayload b).payload i = if i = s.cursor.toNat then some b else Memory.read s.payload i :=
  Memory.read_write s.payload s.cursor.toNat b i

theorem State.readCell_storePayload (s : State) (b : Byte) (i : Nat) :
    (s.storePayload b).readCell i = if i = s.cursor.toNat then b else s.readCell i := by
  rw [State.readCell, State.read_storePayload]
  split <;> rfl

theorem State.read_eq_some_readCell (s : State) (i : Nat) (h : (Memory.read s.payload i).isSome) :
    Memory.read s.payload i = some (s.readCell i) := by
  obtain ⟨v, hv⟩ := Option.isSome_iff_exists.1 h
  simp [State.readCell, hv]

/-! ### The cursor -/

/-- A cursor below a length byte does not wrap (`42_parser.md` R158). -/
theorem cursor_succ_toNat (c : BitVec 8) (l : Byte) (h : c.toNat < l.toNat) : (c + 1#8).toNat = c.toNat + 1 := by
  have := l.isLt
  rw [BitVec.toNat_add, BitVec.toNat_ofNat]
  omega

/-- The cells below the advanced cursor, wrapped or not. -/
theorem eq_or_lt_of_lt_cursor_succ (c : BitVec 8) (i : Nat) (h : i < (c + 1#8).toNat) : i = c.toNat ∨ i < c.toNat := by
  have : (c + 1#8).toNat ≤ c.toNat + 1 := by
    rw [BitVec.toNat_add, BitVec.toNat_ofNat]
    omega
  omega

/-! ### `10_state.md` R33, one parser state at a time -/

theorem sequenced_iff_of_waitStart (s : State) (h : s.pstate = .waitStart) :
    s.Sequenced ↔ s.hdrCount = 0#2 ∧ s.cursor = 0#8 := by
  simp only [State.Sequenced, h, reduceCtorEq]
  tauto

theorem sequenced_iff_of_readHeader (s : State) (h : s.pstate = .readHeader) :
    s.Sequenced ↔ (s.hdrCount = 1#2 ∨ s.hdrCount = 2#2) ∧ s.pfStartMarker = 0x55#8 := by
  simp only [State.Sequenced, h, reduceCtorEq]
  tauto

/-- The bound `1 ≤ pf.length` of R33 (d) follows from the one on the cursor. -/
theorem sequenced_iff_of_readPayload (s : State) (h : s.pstate = .readPayload) :
    s.Sequenced ↔ s.hdrCount = 2#2 ∧ s.cursor.toNat < s.pfLength.toNat := by
  have : s.cursor.toNat < s.pfLength.toNat → 1 ≤ s.pfLength.toNat := by omega
  simp only [State.Sequenced, h, reduceCtorEq]
  tauto

theorem sequenced_iff_of_verifyChecksum (s : State) (h : s.pstate = .verifyChecksum) :
    s.Sequenced ↔ s.hdrCount = 2#2 ∧ s.cursor = s.pfLength := by
  simp only [State.Sequenced, h, reduceCtorEq]
  tauto

theorem sequenced_of_waitStart (s : State) (hp : s.pstate = .waitStart) (hh : s.hdrCount = 0#2) (hc : s.cursor = 0#8) :
    s.Sequenced :=
  (sequenced_iff_of_waitStart s hp).2 ⟨hh, hc⟩

/-! ### Properties kept by every step -/

section Invariant

variable {P : State → Prop} (hown : ∀ s a q r, P s → P { s with acc := a, inputs := q, result := r })
  (hrearm : ∀ s, P s → P s.rearm) (htake : ∀ s tr b, P s → tr.RowMatches s.key b → P (s.take tr b))

include hown hrearm htake

/-- A property of the parser's registers holds after every operation when re-arming and the transitions keep it. -/
theorem exec_keeps_of_take (i : Instr) (s t : State) (hs : P s) (h : exec i s = .next t) : P t := by
  obtain ⟨-, r, a, rfl⟩ | rfl | ⟨tr, b, -, hrow, rfl⟩ := exec_next i s t h
  · exact hown s a s.inputs r hs
  · exact hown s.rearm s.acc s.inputs .done (hrearm s hs)
  · exact htake s tr b hs hrow

theorem step_keeps_of_take (s t : State) (hs : P s) (h : step s = .next t) : P t := by
  obtain ⟨q, rfl⟩ | ⟨q, rfl⟩ | ⟨q, rfl⟩ | ⟨q, i, hi⟩ := step_next s t h
  · exact hown s s.acc q .none hs
  · exact hown s s.acc q (.error .illegalOp) hs
  · exact hown s.rearm 0x00#8 q .none (hrearm s hs)
  · exact exec_keeps_of_take hown hrearm htake i _ t (hown s s.acc q s.result hs) hi

end Invariant

theorem run_zero_next (M : Host.Core) (s t : M.State) (h : M.run 0 s = .next t) : s = t := by
  rw [Host.Core.run] at h
  cases h
  rfl

theorem run_succ_next (M : Host.Core) (n : Nat) (s t : M.State) (h : M.run (n + 1) s = .next t) :
    ∃ u, M.step s = .next u ∧ M.run n u = .next t := by
  rw [Host.Core.run] at h
  split at h
  · next u hu => exact ⟨u, hu, h⟩
  · cases h
  · cases h

theorem run_keeps_of_step (M : Host.Core) (P : M.State → Prop) (hstep : ∀ s t, P s → M.step s = .next t → P t)
    (n : Nat) (s t : M.State) (hs : P s) (h : M.run n s = .next t) : P t := by
  induction n generalizing s with
  | zero => exact run_zero_next M s t h ▸ hs
  | succ n ih =>
    obtain ⟨u, hu, hrest⟩ := run_succ_next M n s t h
    exact ih u (hstep s u hs hu) hrest

/-! ### The reachable states -/

theorem sequenced_rearm (s : State) : s.rearm.Sequenced :=
  sequenced_of_waitStart s.rearm rfl rfl rfl

theorem take_keeps_sequenced (s : State) (tr : Transition) (b : Byte) (hs : s.Sequenced)
    (hrow : tr.RowMatches s.key b) : (s.take tr b).Sequenced := by
  cases tr with
  | sync =>
    obtain ⟨-, hb⟩ := hrow
    exact (sequenced_iff_of_readHeader (s.takeSync b) rfl).2 ⟨.inl rfl, hb⟩
  | skip => exact hs
  | ident =>
    obtain ⟨hp, -⟩ := hrow
    obtain ⟨-, hmarker⟩ := (sequenced_iff_of_readHeader s hp).1 hs
    exact (sequenced_iff_of_readHeader (s.takeIdent b) hp).2 ⟨.inr rfl, hmarker⟩
  | len =>
    obtain ⟨-, hh, hb⟩ := hrow
    have hpos : 0 < b.toNat := Nat.pos_of_ne_zero fun h => hb (BitVec.eq_of_toNat_eq h)
    exact (sequenced_iff_of_readPayload (s.takeLen b) rfl).2 ⟨hh, hpos⟩
  | len0 =>
    obtain ⟨-, hh, -⟩ := hrow
    exact (sequenced_iff_of_verifyChecksum s.takeLen0 rfl).2 ⟨hh, rfl⟩
  | pay =>
    obtain ⟨hp, hlt⟩ := hrow
    obtain ⟨hh, hc⟩ := (sequenced_iff_of_readPayload s hp).1 hs
    refine (sequenced_iff_of_readPayload (s.takePay b) hp).2 ⟨hh, ?_⟩
    exact (cursor_succ_toNat s.cursor s.pfLength hc).trans_lt hlt
  | payl =>
    obtain ⟨hp, hlast⟩ := hrow
    obtain ⟨hh, hc⟩ := (sequenced_iff_of_readPayload s hp).1 hs
    refine (sequenced_iff_of_verifyChecksum (s.takePayl b) rfl).2 ⟨hh, BitVec.eq_of_toNat_eq ?_⟩
    exact (cursor_succ_toNat s.cursor s.pfLength hc).trans hlast
  | csum => exact sequenced_of_waitStart (s.takeCsum b) rfl rfl rfl

theorem exec_keeps_sequenced (i : Instr) (s t : State) (hs : s.Sequenced) (h : exec i s = .next t) : t.Sequenced :=
  exec_keeps_of_take (P := State.Sequenced) (fun _ _ _ _ h => h) (fun s _ => sequenced_rearm s) take_keeps_sequenced
    i s t hs h

theorem step_keeps_sequenced (s t : State) (hs : s.Sequenced) (h : step s = .next t) : t.Sequenced :=
  step_keeps_of_take (P := State.Sequenced) (fun _ _ _ _ h => h) (fun s _ => sequenced_rearm s) take_keeps_sequenced
    s t hs h

/-- Settles O43: re-arming leads to WAIT_START with both counters at 0, and each transition leads from R33 to R33. -/
theorem stepKeepsSequenced : Obligations.StepKeepsSequenced :=
  ⟨exec_keeps_sequenced, step_keeps_sequenced⟩

theorem run_keeps_sequenced (n : Nat) (s t : State) (hs : s.Sequenced)
    (h : Host.Core.run Sys2Proof.core n s = .next t) : t.Sequenced :=
  run_keeps_of_step Sys2Proof.core State.Sequenced step_keeps_sequenced n s t hs h

/-- Settles O44: reset and P.INIT both leave the parser in WAIT_START with both counters at 0, and every step of the run
keeps R33. -/
theorem reachedStatesAreSequenced : Obligations.ReachedStatesAreSequenced := by
  refine ⟨fun rs n t hrun => ?_, fun s s0 rs n t hinit hrun => ?_⟩
  · exact run_keeps_sequenced n _ t (sequenced_of_waitStart _ rfl rfl rfl) hrun
  · cases hinit
    exact run_keeps_sequenced n _ t (sequenced_of_waitStart _ rfl rfl rfl) hrun

/-! ### The cells written since power-up -/

theorem filled_of_waitStart (s : State) (h : s.pstate = .waitStart) : s.Filled := by
  simp [State.Filled, h]

theorem filled_of_readHeader (s : State) (h : s.pstate = .readHeader) : s.Filled := by
  simp [State.Filled, h]

theorem filled_of_cursor_zero (s : State) (h : s.cursor = 0#8) : s.Filled := by
  simp [State.Filled, h]

/-- What P.PAY and P.PAYL share: the store fills the cell the cursor passes. -/
theorem isSome_read_storePayload (s : State) (b : Byte)
    (hcells : ∀ i < s.cursor.toNat, (Memory.read s.payload i).isSome) (i : Nat) (hi : i < (s.cursor + 1#8).toNat) :
    (Memory.read (s.storePayload b).payload i).isSome := by
  rw [State.read_storePayload]
  split
  · rfl
  · next hne => exact hcells i ((eq_or_lt_of_lt_cursor_succ s.cursor i hi).resolve_left hne)

/-- `Sequenced` is not needed: the cursor moves by a store or to 0. -/
theorem take_keeps_filled (s : State) (tr : Transition) (b : Byte) (hf : s.Filled) (hrow : tr.RowMatches s.key b) :
    (s.take tr b).Filled := by
  cases tr with
  | sync => exact filled_of_readHeader (s.takeSync b) rfl
  | skip => exact hf
  | ident =>
    obtain ⟨hp, -⟩ := hrow
    exact filled_of_readHeader (s.takeIdent b) hp
  | len => exact filled_of_cursor_zero (s.takeLen b) rfl
  | len0 => exact filled_of_cursor_zero s.takeLen0 rfl
  | pay =>
    obtain ⟨hp, -⟩ := hrow
    exact fun _ => isSome_read_storePayload s b (hf (.inl hp))
  | payl =>
    obtain ⟨hp, -⟩ := hrow
    exact fun _ => isSome_read_storePayload s b (hf (.inl hp))
  | csum => exact filled_of_waitStart (s.takeCsum b) rfl

theorem step_keeps_filled (s t : State) (hf : s.Filled) (h : step s = .next t) : t.Filled :=
  step_keeps_of_take (P := State.Filled) (fun _ _ _ _ h => h) (fun s _ => filled_of_waitStart s.rearm rfl)
    take_keeps_filled s t hf h

/-- Settles O46: the cursor advances only past the cell the same step stores. -/
theorem stepKeepsWrittenCells : Obligations.StepKeepsWrittenCells :=
  fun s t hs hf h => ⟨step_keeps_sequenced s t hs h, step_keeps_filled s t hf h⟩

/-- Settles O1. -/
theorem resetStateHoldsSpecifiedValues : Obligations.ResetStateHoldsSpecifiedValues :=
  ⟨rfl, rfl, rfl, rfl, sequenced_of_waitStart State.reset rfl rfl rfl, reset_payload_wf,
    filled_of_waitStart State.reset rfl⟩

/-! ### The verdict -/

theorem statusOf_beq (c b : Byte) : statusOf (c == b) = if c = b then .frameValid else .frameCorrupted := by
  simp only [statusOf, beq_iff_eq]

/-- The verdict of P.CSUM on the registers and the meaningful bytes of the frame buffer. -/
theorem takeCsum_result_eq (s : State) (b : Byte) :
    (s.takeCsum b).result =
      .status (if xorfold ([s.pfMessageId, s.pfLength] ++ s.pFrame.bytes) = b then .frameValid
        else .frameCorrupted) := by
  rw [State.takeCsum_result, ← statusOf_beq]
  rfl

theorem pFrame_bytes_getElem? (s : State) (i : Nat) (h : i < s.pfLength.toNat) :
    s.pFrame.bytes[i]? = some (s.readCell i) := by
  simp [pFrame_bytes, h]

/-- Settles O50, with the meaningful bytes of the frame buffer as `p`: in VERIFY_CHECKSUM the cursor stands at the
length, so each of them has been written. -/
theorem verdictReadsWrittenCellsOnly : Obligations.VerdictReadsWrittenCellsOnly := by
  intro s b hs hf hp
  obtain ⟨hh, hc⟩ := (sequenced_iff_of_verifyChecksum s hp).1 hs
  refine ⟨s.pFrame.bytes, s.takeCsum b, frame_bytes_length _, fun i hi => ?_, ?_, takeCsum_result_eq s b⟩
  · rw [pFrame_bytes_getElem? s i hi]
    exact s.read_eq_some_readCell i (hf (.inr hp) i (hc ▸ hi))
  · exact exec_pByte_of_row s b .csum (by simp [hh]) hp

/-! ### Two states the current frame does not tell apart -/

/-- What P.PAY and P.PAYL share: the same byte goes into the same cell. -/
theorem readCell_storePayload_congr (s s' : State) (b : Byte) (hc : s.cursor = s'.cursor)
    (hcells : ∀ i < s.cursor.toNat, s.readCell i = s'.readCell i) (i : Nat) (hi : i < (s.cursor + 1#8).toNat) :
    (s.storePayload b).readCell i = (s'.storePayload b).readCell i := by
  rw [State.readCell_storePayload, State.readCell_storePayload, ← hc]
  split
  · rfl
  · next hne => exact hcells i ((eq_or_lt_of_lt_cursor_succ s.cursor i hi).resolve_left hne)

theorem pFrame_bytes_congr (s s' : State) (hlen : s.pfLength = s'.pfLength)
    (hcells : ∀ i < s.pfLength.toNat, s.readCell i = s'.readCell i) : s.pFrame.bytes = s'.pFrame.bytes := by
  rw [pFrame_bytes, pFrame_bytes, ← hlen]
  exact List.map_congr_left fun i hi => hcells i (List.mem_range.1 hi)

namespace State.SameFrameSoFar

variable {s s' : State}

theorem withInputs (q : List Inputs) (h : s.SameFrameSoFar s') :
    ({ s with inputs := q } : State).SameFrameSoFar { s' with inputs := q } := by
  obtain ⟨-, hblock⟩ := h
  exact ⟨rfl, hblock⟩

theorem withAcc {a a' : Byte} (ha : a = a') (h : s.SameFrameSoFar s') :
    ({ s with acc := a } : State).SameFrameSoFar { s' with acc := a' } := by
  obtain ⟨hin, -, hparser⟩ := h
  exact ⟨hin, ha, hparser⟩

/-- Between frames nothing of the frame buffer counts. -/
theorem of_waitStart (hin : s.inputs = s'.inputs) (hacc : s.acc = s'.acc) (hp : s.pstate = .waitStart)
    (hp' : s'.pstate = .waitStart) (hh : s.hdrCount = 0#2) (hh' : s'.hdrCount = 0#2) (hc : s.cursor = s'.cursor) :
    s.SameFrameSoFar s' := by
  simp [State.SameFrameSoFar, hin, hacc, hp, hp', hh, hh', hc]

theorem rearm (h : s.SameFrameSoFar s') : s.rearm.SameFrameSoFar s'.rearm := by
  obtain ⟨hin, hacc, -⟩ := h
  exact of_waitStart hin hacc rfl rfl rfl rfl rfl

theorem hardwareReset (h : s.SameFrameSoFar s') : s.hardwareReset.SameFrameSoFar s'.hardwareReset :=
  withAcc (s := s.rearm) (s' := s'.rearm) rfl h.rearm

/-- The two states select the same row: the length takes part only in READ_PAYLOAD, where they agree on it. -/
theorem rowMatches (tr : Transition) (b : Byte) (h : s.SameFrameSoFar s') (hrow : tr.RowMatches s.key b) :
    tr.RowMatches s'.key b := by
  obtain ⟨-, -, hp, hh, hc, -, hpast⟩ := h
  cases tr <;> simp only [Transition.RowMatches, ← hp, ← hh, ← hc] at hrow ⊢
  case pay | payl =>
    obtain ⟨hlen, -⟩ := hpast (.inl hrow.1)
    rwa [← hlen]
  all_goals exact hrow

/-- The transitions keep the agreement: each writes to both states what the current frame brings. -/
theorem take (tr : Transition) (b : Byte) (h : s.SameFrameSoFar s') (hrow : tr.RowMatches s.key b) :
    (s.take tr b).SameFrameSoFar (s'.take tr b) := by
  have hsame := h
  obtain ⟨hin, hacc, hp, hh, hc, hid, hpast⟩ := h
  cases tr with
  | sync => exact ⟨hin, hacc, rfl, rfl, hc, by simp [State.take], by simp [State.take]⟩
  | skip => exact hsame
  | ident =>
    obtain ⟨hheader, -⟩ := hrow
    exact ⟨hin, hacc, hp, rfl, hc, fun _ => rfl, by simp [State.take, show s.pstate = .readHeader from hheader]⟩
  | len => exact ⟨hin, hacc, rfl, hh, rfl, hid, fun _ => ⟨rfl, by simp [State.take]⟩⟩
  | len0 => exact ⟨hin, hacc, rfl, hh, rfl, hid, fun _ => ⟨rfl, by simp [State.take]⟩⟩
  | pay =>
    obtain ⟨hpayload, -⟩ := hrow
    obtain ⟨hlen, hcells⟩ := hpast (.inl hpayload)
    exact ⟨hin, hacc, hp, hh, congrArg (· + 1#8) hc, hid,
      fun _ => ⟨hlen, readCell_storePayload_congr s s' b hc hcells⟩⟩
  | payl =>
    obtain ⟨hpayload, -⟩ := hrow
    obtain ⟨hlen, hcells⟩ := hpast (.inl hpayload)
    exact ⟨hin, hacc, rfl, hh, congrArg (· + 1#8) hc, hid,
      fun _ => ⟨hlen, readCell_storePayload_congr s s' b hc hcells⟩⟩
  | csum => exact of_waitStart hin hacc rfl rfl rfl rfl rfl

/-- The verdict needs R33 (e): the cells it reads are those below the cursor. -/
theorem takeCsum_result (b : Byte) (hs : s.Sequenced) (h : s.SameFrameSoFar s') (hp : s.pstate = .verifyChecksum) :
    (s'.takeCsum b).result = (s.takeCsum b).result := by
  obtain ⟨hh, hc⟩ := (sequenced_iff_of_verifyChecksum s hp).1 hs
  obtain ⟨-, -, -, -, -, hid, hpast⟩ := h
  obtain ⟨hlen, hcells⟩ := hpast (.inr hp)
  rw [hc] at hcells
  rw [takeCsum_result_eq, takeCsum_result_eq, pFrame_bytes_congr s s' hlen hcells, hid hh, hlen]

theorem take_result (tr : Transition) (b : Byte) (hs : s.Sequenced) (h : s.SameFrameSoFar s')
    (hrow : tr.RowMatches s.key b) : (s'.take tr b).result = (s.take tr b).result := by
  cases tr with
  | csum => exact h.takeCsum_result b hs hrow
  | _ => rfl

end State.SameFrameSoFar

/-! ### Two runs -/

/-- The operations of the other units do the same to every state: what they leave in `acc` is a function of `acc`, and
their answer is fixed. -/
theorem exec_other_uniform (i : Instr) (hi : isParserOp i = false) :
    ∃ (f : Byte → Byte) (r : Result), ∀ s, exec i s = .next { s with acc := f s.acc, result := r } := by
  cases hp : isPure i with
  | true =>
    obtain ⟨r, hr⟩ := exec_pure_next i hp
    exact ⟨id, r, hr⟩
  | false =>
    obtain rfl | ⟨b, rfl⟩ := csClr_or_csFold_of_not_parserOp_not_pure i hi hp
    · exact ⟨fun _ => 0x00#8, .done, fun _ => rfl⟩
    · exact ⟨(· ^^^ b), .done, fun _ => rfl⟩

/-- What a step does is decided by the coming inputs alone, the same for every state: it answers with nothing else
done, it resets, it performs one operation, or it stops. -/
theorem step_uniform (q : List Inputs) :
    (∃ rest r, ∀ s, s.inputs = q → step s = .next { s with inputs := rest, result := r }) ∨
    (∃ rest, ∀ s, s.inputs = q → step s = .next ({ s with inputs := rest } : State).hardwareReset) ∨
    (∃ rest i, ∀ s, s.inputs = q → step s = exec i { s with inputs := rest }) ∨
    (∀ s t, s.inputs = q → step s ≠ .next t) := by
  cases q with
  | nil =>
    refine .inl ⟨[], .none, fun s h => ?_⟩
    simp only [step, State.fetch_nil s h, State.idle, State.answer, ← h]
  | cons r rest =>
    have htaken (s : State) (h : s.inputs = r :: rest) : step s = stepOn r { s with inputs := rest } := by
      simp only [step, State.fetch_cons s r rest h]
    cases hrst : r.rst with
    | true => exact .inr (.inl ⟨rest, fun s h => by simp only [htaken s h, stepOn, hrst, if_true]⟩)
    | false =>
      cases hvalid : r.opValid with
      | false =>
        exact .inl ⟨rest, .none, fun s h => by simp [htaken s h, stepOn, hrst, hvalid, State.idle, State.answer]⟩
      | true =>
        cases hdec : decode r with
        | ok i => exact .inr (.inr (.inl ⟨rest, i, fun s h => step_of_decode s r rest i h hrst hvalid hdec⟩))
        | error e =>
          have hreject (s : State) (h : s.inputs = r :: rest) : step s = rejectRequest e { s with inputs := rest } := by
            simp [htaken s h, stepOn, hrst, hvalid, hdec]
          cases e with
          | reservedOp => exact .inl ⟨rest, .error .illegalOp, hreject⟩
          | seqTooLong => exact .inr (.inr (.inr fun s t h => by simp [hreject s h, rejectRequest]))
          | noRow => exact .inr (.inr (.inr fun s t h => by simp [hreject s h, rejectRequest]))

theorem exec_sameFrameSoFar (i : Instr) (s s' t : State) (hs : s.Sequenced) (hsame : s.SameFrameSoFar s')
    (h : exec i s = .next t) : ∃ t', exec i s' = .next t' ∧ t'.result = t.result ∧ t.SameFrameSoFar t' := by
  have ⟨_, hacc, _, hh, _⟩ := hsame
  cases hi : isParserOp i with
  | false =>
    obtain ⟨f, r, hexec⟩ := exec_other_uniform i hi
    rw [hexec] at h
    cases h
    exact ⟨_, hexec s', rfl, hsame.withAcc (congrArg f hacc)⟩
  | true =>
    obtain ⟨rfl, rfl⟩ | ⟨tr, b, h3, hrow, rfl, hform⟩ := exec_parser_next i s t hi h
    · exact ⟨s'.rearm.answer .done, rfl, rfl, hsame.rearm⟩
    · have hrow' := hsame.rowMatches tr b hrow
      have hexec : exec i s' = .next (s'.take tr b) := by
        obtain rfl | rfl := hform
        · exact exec_pByte_of_row s' b tr (hh ▸ h3) hrow'
        · exact exec_toInstr_of_row s' b tr (hh ▸ h3) hrow'
      exact ⟨s'.take tr b, hexec, hsame.take_result tr b hs hrow, hsame.take tr b hrow⟩

theorem step_sameFrameSoFar (s s' t : State) (hs : s.Sequenced) (hsame : s.SameFrameSoFar s')
    (h : step s = .next t) : ∃ t', step s' = .next t' ∧ t'.result = t.result ∧ t.SameFrameSoFar t' := by
  have ⟨hin, _⟩ := hsame
  obtain ⟨q, r, hstep⟩ | ⟨q, hstep⟩ | ⟨q, i, hstep⟩ | hstop := step_uniform s.inputs
  · rw [hstep s rfl] at h
    cases h
    exact ⟨_, hstep s' hin.symm, rfl, hsame.withInputs q⟩
  · rw [hstep s rfl] at h
    cases h
    exact ⟨_, hstep s' hin.symm, rfl, (hsame.withInputs q).hardwareReset⟩
  · rw [hstep s rfl] at h
    rw [hstep s' hin.symm]
    exact exec_sameFrameSoFar i { s with inputs := q } _ t hs (hsame.withInputs q) h
  · exact absurd h (hstop s t rfl)

/-- The answers agree at the start too, so that they agree after a run of no step. -/
theorem run_sameFrameSoFar (n : Nat) (s s' t : State) (hs : s.Sequenced) (hsame : s.SameFrameSoFar s')
    (hresult : s'.result = s.result) (h : Host.Core.run Sys2Proof.core n s = .next t) :
    ∃ t', Host.Core.run Sys2Proof.core n s' = .next t' ∧ t'.result = t.result ∧ t.SameFrameSoFar t' := by
  induction n generalizing s s' with
  | zero =>
    cases run_zero_next Sys2Proof.core s t h
    exact ⟨s', rfl, hresult, hsame⟩
  | succ n ih =>
    obtain ⟨u, hu, hrest⟩ := run_succ_next Sys2Proof.core n s t h
    obtain ⟨u', hu', hresult', hsame'⟩ := step_sameFrameSoFar s s' u hs hsame hu
    rw [core_run_succ_of_step n s' u' hu']
    exact ih u u' (step_keeps_sequenced s u hs hu) hsame' hresult' hrest

/-- Settles O60: in WAIT_START two states that differ in the frame buffer alone are not told apart by the current
frame, and every step keeps that. -/
theorem unspecifiedFrameBufferNeverReachesResults : Obligations.UnspecifiedFrameBufferNeverReachesResults := by
  refine ⟨step_sameFrameSoFar, fun s t n m marker ident len checksum hs hp hrun => ?_⟩
  obtain ⟨hh, -⟩ := (sequenced_iff_of_waitStart s hp).1 hs
  exact run_sameFrameSoFar n s _ t hs (.of_waitStart rfl rfl hp hp hh hh rfl) rfl hrun

end Sys2Proof.Machine
end

section
/-!
PROOFS. The payload buffer as a memory (`20_memory.md` R50): what a cell reads as after a write, and the canonical form
of the buffer. Only P.PAY and P.PAYL write it, each through one write at the 8-bit cursor, so a write never leaves the
256 cells, whatever the rest of the state.
-/

namespace Sys2Proof.Machine

/-! ### One write -/

theorem State.readCell_writeCell (s : State) (i : BitVec 8) (v : Byte) (j : Nat) :
    (s.writeCell i v).readCell j = if j = i.toNat then v else s.readCell j := by
  rw [State.readCell, State.writeCell_payload, Memory.read_write]
  split
  · rfl
  · rfl

/-- Settles O47: reading the list after a write gives the byte written, or what the list held. -/
theorem cellReadAfterWrite : Obligations.CellReadAfterWrite :=
  State.readCell_writeCell

/-! ### The canonical form -/

theorem take_keeps_canonical (s : State) (tr : Transition) (b : Byte) (hs : s.Canonical) : (s.take tr b).Canonical := by
  cases tr with
  | pay | payl => exact s.wf_writeCell s.cursor b hs
  | sync | skip | ident | len | len0 | csum => exact hs

theorem exec_keeps_canonical (i : Instr) (s t : State) (hs : s.Canonical) (h : exec i s = .next t) : t.Canonical :=
  exec_keeps_of_take (P := State.Canonical) (fun _ _ _ _ hs => hs) (fun _ hs => hs)
    (fun s tr b hs _ => take_keeps_canonical s tr b hs) i s t hs h

theorem step_keeps_canonical (s t : State) (hs : s.Canonical) (h : step s = .next t) : t.Canonical :=
  step_keeps_of_take (P := State.Canonical) (fun _ _ _ _ hs => hs) (fun _ hs => hs)
    (fun s tr b hs _ => take_keeps_canonical s tr b hs) s t hs h

/-- Settles O45: re-arming and six of the transitions leave the buffer alone, and the other two write one cell of it. -/
theorem stepKeepsCanonicalPayload : Obligations.StepKeepsCanonicalPayload :=
  ⟨exec_keeps_canonical, step_keeps_canonical⟩

end Sys2Proof.Machine
end

section
/-!
PROOFS. The two decoders, the transition table and the codes (`30_encoding.md` R74 to R84). Four facts carry it: the
decoder of requests accepts the nine operations and nothing else; where a row of the table matches, it is the row the
decoder of keys answers; the states in which P.BYTE has a meaning (`42_parser.md` R151) are those in which some row is
selected, and every state of R33 is one; and a row as an instruction stands or falls with the row the key selects.
-/

namespace Sys2Proof.Machine

/-! ### The decoder of requests -/

theorem decodeSeq_eq_ok_iff (s : ByteSeq) (i j : Instr) :
    decodeSeq s i = .ok j ↔ ByteSeq.fits s = true ∧ i = j := by
  unfold decodeSeq
  split
  · next hfits => simp [hfits]
  · next hfits => simp [hfits]

/-- What the decoder accepts: an operation, never a transition row, with operands the ports can express and the code of
`30_encoding.md` R76. -/
theorem decode_ok (r : Inputs) (i : Instr) (h : decode r = .ok i) :
    i.WellFormed = true ∧ requestedOp i = i ∧ r.op = Laws.opcodeOf i := by
  unfold decode at h
  split at h
  case h_3 hop | h_4 hop | h_7 hop =>
    obtain ⟨hfits, rfl⟩ := (decodeSeq_eq_ok_iff _ _ _).1 h
    exact ⟨hfits, rfl, BitVec.eq_of_toNat_eq hop⟩
  case h_10 => cases h
  all_goals
    next hop =>
      cases h
      exact ⟨rfl, rfl, BitVec.eq_of_toNat_eq hop⟩

theorem decode_of_reserved (r : Inputs) (h : 9 ≤ r.op.toNat) : decode r = .error (.reservedOp r.op) := by
  unfold decode
  split
  case h_10 => rfl
  all_goals omega

theorem encode_eq_request (i : Instr) (h : requestedOp i = i) : encode i = .request (encode i).inputs := by
  revert h
  cases i <;> simp [requestedOp, encode, Encoded.inputs]

theorem encode_inputs_op (i : Instr) : (encode i).inputs.op = Laws.opcodeOf i := by
  cases i <;> rfl

/-! ### The decoder of transition keys -/

/-- Where a row of the table matches, the decoder of keys answers that row. -/
theorem decodeKey_of_row (k : Key) (b : Byte) (t : Transition) (h3 : k.hdrCount ≠ 3#2) (h : t.RowMatches k b) :
    decodeKey k b = .ok (t.toInstr b) := by
  simp only [decodeKey, (transitionOf_eq_some_iff k b t).2 ⟨h3, h⟩]

theorem key_hdrCount_ne_three (t : Transition) : t.key.hdrCount ≠ 3#2 := by
  cases t <;> decide

theorem decodeKey_key (t : Transition) (b : Byte) (h : t.RowMatches t.key b) :
    decodeKey t.key b = .ok (t.toInstr b) :=
  decodeKey_of_row t.key b t (key_hdrCount_ne_three t) h

/-- Settles O7: an operation comes back from the request driven for it, and a transition row from its key, which meets
the row's condition for every byte of the row's pattern. -/
theorem decodeInvertsEncode : Obligations.DecodeInvertsEncode := by
  intro i hwf
  cases i with
  | csClr | csFold | csum | build | verify | ser | deser | pInit | pByte => exact decode_encode_inputs _ hwf
  | pSync => exact decodeKey_key .sync _ ⟨rfl, rfl⟩
  | pSkip b => exact decodeKey_key .skip b ⟨rfl, of_decide_eq_true hwf⟩
  | pId b => exact decodeKey_key .ident b ⟨rfl, rfl⟩
  | pLen b => exact decodeKey_key .len b ⟨rfl, rfl, of_decide_eq_true hwf⟩
  | pLen0 => exact decodeKey_key .len0 _ ⟨rfl, rfl, rfl⟩
  | pPay b => exact decodeKey_key .pay b ⟨rfl, Nat.lt_succ_self 1⟩
  | pPayl b => exact decodeKey_key .payl b ⟨rfl, rfl⟩
  | pCsum b => exact decodeKey_key .csum b rfl

/-- Settles O8: an accepted request is one of the nine operations, and those are encoded as requests. -/
theorem encodeInvertsDecode : Obligations.EncodeInvertsDecode := by
  intro r i hdec
  obtain ⟨hwf, hop, hcode⟩ := decode_ok r i hdec
  have hback : decode (encode i).inputs = .ok i := by rw [decode_encode_inputs i hwf, hop]
  exact ⟨hwf, (encode i).inputs, encode_eq_request i hop, (encode_inputs_op i).trans hcode.symm, encode_inputs_rst i,
    encode_inputs_opValid i, hback⟩

/-- Settles O9: the words are read by evaluation, and of the two keys that share P.LEN0's word each meets the condition
of one row. -/
theorem specWordsDecode : Obligations.SpecWordsDecode := by
  refine ⟨rfl, rfl, rfl, rfl, rfl, rfl, rfl, rfl, rfl, rfl, rfl, rfl, rfl, rfl, rfl, fun k hp hh => ?_,
    fun k hp hh => ?_⟩
  · exact decodeKey_of_row k 0x00#8 .ident (by rw [hh]; decide) ⟨hp, hh⟩
  · exact decodeKey_of_row k 0x00#8 .len0 (by rw [hh]; decide) ⟨hp, hh, rfl⟩

/-! ### The transition table -/

/-- The states with a meaning are those in which a row is selected, whatever the byte (`42_parser.md` R151). -/
theorem exists_transitionOf_iff (s : State) (b : Byte) : (∃ t, transitionOf s.key b = some t) ↔ s.HasTransition := by
  rw [← Option.ne_none_iff_exists', Ne, transitionOf_eq_none_iff, ← Nat.not_lt]
  simp only [State.HasTransition]
  tauto

/-- R33 (a), (c) and (d) rule out the three combinations of R151. -/
theorem hasTransition_of_sequenced (s : State) (hs : s.Sequenced) : s.HasTransition := by
  obtain ⟨hcount, -, hheader, hpayload, -⟩ := hs
  refine ⟨?_, fun hp => (hheader hp).1, fun hp => (hpayload hp).2.2⟩
  intro h3
  simp [h3] at hcount

/-- Settles O10: some row is selected in every state of R33, and any row that matches is the selected one. -/
theorem transitionRowsCompleteAndExclusive : Obligations.TransitionRowsCompleteAndExclusive := by
  intro s b hs
  obtain ⟨t, hsel⟩ := (exists_transitionOf_iff s b).2 (hasTransition_of_sequenced s hs)
  obtain ⟨h3, hrow⟩ := (transitionOf_eq_some_iff s.key b t).1 hsel
  refine ⟨t, hrow, fun t' hrow' => ?_, hsel⟩
  have hsel' : transitionOf s.key b = some t' := (transitionOf_eq_some_iff s.key b t').2 ⟨h3, hrow'⟩
  exact Option.some_inj.1 (hsel'.symm.trans hsel)

/-- A row as an instruction runs the row on its byte; P.SYNC and P.LEN0 carry none and run on the one byte their
conditions fix. -/
theorem exec_toInstr (t : Transition) (b : Byte) (s : State) (hsync : t = .sync → b = 0x55#8)
    (hlen0 : t = .len0 → b = 0x00#8) : exec (t.toInstr b) s = execRow t b s := by
  cases t with
  | sync => rw [hsync rfl]; rfl
  | len0 => rw [hlen0 rfl]; rfl
  | skip | ident | len | pay | payl | csum => rfl

theorem execRow_of_other_row (t t' : Transition) (b : Byte) (s : State) (h3 : s.hdrCount ≠ 3#2)
    (hrow : t'.RowMatches s.key b) (hne : t ≠ t') : execRow t b s = .refused (.otherTransition t t') := by
  simp only [execRow, (transitionOf_eq_some_iff s.key b t').2 ⟨h3, hrow⟩, if_neg hne.symm]

/-- Settles O42. Of a state with a meaning only `hdr_count` ≠ 3 is used: the rest follows from the row that matches. -/
theorem rowsRefuseWhereAnotherIsSelected : Obligations.RowsRefuseWhereAnotherIsSelected := by
  intro s b t t' hmeaning hrow hne hsync hlen0
  obtain ⟨h3, -, -⟩ := hmeaning
  exact (exec_toInstr t b s hsync hlen0).trans (execRow_of_other_row t t' b s h3 hrow hne)

/-! ### Stray bytes -/

theorem trace_cons_of_next (i : Instr) (is : List Instr) (s u t : State) (rs : List Result)
    (hexec : exec i s = .next u) (hrest : trace is u = .next (t, rs)) :
    trace (i :: is) s = .next (t, u.result :: rs) := by
  simp only [trace, hexec, hrest]

/-- `42_parser.md` R143 as the effect of P.BYTE. -/
theorem exec_pByte_stray (s : State) (b : Byte) (hp : s.pstate = .waitStart) (h3 : s.hdrCount ≠ 3#2) (hb : b ≠ 0x55#8) :
    exec (.pByte b) s = .next s.takeSkip :=
  exec_pByte_of_row s b .skip h3 ⟨hp, hb⟩

/-- Settles O57, by induction on the bytes: each is skipped, which changes nothing of the block, so the parser still
waits for a start. -/
theorem strayBytesAreSkipped : Obligations.StrayBytesAreSkipped := by
  intro s q
  induction q generalizing s with
  | nil => intro _ _ _; exact ⟨s, rfl, rfl⟩
  | cons b q ih =>
    intro hp h3 hstray
    have hb : b ≠ 0x55#8 := (List.ne_of_not_mem_cons hstray).symm
    have hq : 0x55#8 ∉ q := List.not_mem_of_not_mem_cons hstray
    obtain ⟨t, hrest, hblock⟩ := ih s.takeSkip hp h3 hq
    exact ⟨t, trace_cons_of_next (.pByte b) (feed q) s _ t _ (exec_pByte_stray s b hp h3 hb) hrest, hblock⟩

/-! ### Steps without an operation -/

theorem step_eq_stepOn (s : State) (r : Inputs) (rest : List Inputs) (hin : s.inputs = r :: rest) :
    step s = stepOn r { s with inputs := rest } := by
  simp only [step, State.fetch_cons s r rest hin]

/-- Settles O3. -/
theorem noRequestChangesNothing : Obligations.NoRequestChangesNothing := by
  refine ⟨fun s hin => ?_, fun s r rest hin hrst hvalid => ?_⟩
  · simp only [step, State.fetch_nil s hin]
    rfl
  · simp only [step_eq_stepOn s r rest hin, stepOn, hrst, hvalid, Bool.false_eq_true, if_false]
    rfl

/-- Settles O4. -/
theorem reservedCodeRaisesIllegalOp : Obligations.ReservedCodeRaisesIllegalOp := by
  intro s r rest hin hrst hvalid hop
  refine ⟨?_, rfl⟩
  simp only [step_eq_stepOn s r rest hin, stepOn, hrst, hvalid, decode_of_reserved r hop, Bool.false_eq_true, if_false,
    if_true]
  rfl

/-! ### The codes on the result ports -/

theorem rErr_of_no_error (r : Result) (hne : r ≠ .none) (h : r.errorOf = none) : r.rErr = some 0#3 := by
  cases r with
  | none => exact absurd rfl hne
  | _ => simp only [Result.rErr, h]

theorem rErr_of_error (r : Result) (e : ErrorCode) (h : r.errorOf = some e) : r.rErr = some e.code := by
  cases r with
  | none => cases h
  | _ => simp only [Result.rErr, h]

/-- The codes 6 and 7 of `r_err` are no error's (`30_encoding.md` R81). -/
theorem errorCode_code_le_five (e : ErrorCode) : e.code ≤ 5#3 := by
  cases e <;> decide

theorem rErr_le_five (r : Result) (c : BitVec 3) (h : r.rErr = some c) : c ≤ 5#3 := by
  by_cases hne : r = .none
  · subst hne
    cases h
  · cases he : r.errorOf with
    | none =>
      rw [rErr_of_no_error r hne he] at h
      cases h
      decide
    | some e =>
      rw [rErr_of_error r e he] at h
      cases h
      exact errorCode_code_le_five e

theorem status_code_ne_three (st : Status) : st.code ≠ 0b11#2 := by
  cases st <;> decide

theorem rStatus_ne_three (r : Result) : r.rStatus ≠ some 0b11#2 := by
  cases r with
  | status st => exact fun h => status_code_ne_three st (Option.some_inj.1 h)
  | none | done | byte | frame | verdict | seq | error => exact (Option.some_ne_none _).symm

/-- Settles O11: of the reserved codes, 3 is no status's and 6 and 7 are above every error's. -/
theorem codesOfStatesStatusesErrors : Obligations.CodesOfStatesStatusesErrors := by
  refine ⟨⟨rfl, rfl, rfl, rfl, fun _ => rfl⟩, ⟨rfl, rfl, rfl, fun _ => rfl, rStatus_ne_three⟩,
    rfl, rfl, rfl, rfl, rfl, rErr_of_no_error, fun r e _ he => rErr_of_error r e he,
    fun r => ⟨fun h => ?_, fun h => ?_⟩⟩
  · exact absurd (rErr_le_five r _ h) (by decide)
  · exact absurd (rErr_le_five r _ h) (by decide)

end Sys2Proof.Machine
end

section
/-!
PROOFS. The checksum unit (`40_checksum.md`). The fold is a homomorphism from concatenation to exclusive-or, so its
bits are parities; a run without CS.CLR moves the accumulator by the fold of the bytes it folds; and a frame is valid
exactly when its covered bytes, the checksum among them, fold to zero.
-/

namespace Sys2Proof.Machine

/-! ### The laws of the fold -/

theorem xorfold_append (s t : ByteSeq) : xorfold (s ++ t) = xorfold s ^^^ xorfold t := by
  rw [xorfold, List.foldl_append, foldl_xor_eq t]
  rfl

theorem xorfold_singleton (b : Byte) : xorfold [b] = b := by
  rw [xorfold_cons, xorfold_nil, BitVec.xor_zero]

theorem xorfold_perm (s t : ByteSeq) (h : s.Perm t) : xorfold s = xorfold t := by
  induction h with
  | nil => rfl
  | cons x _ ih => rw [xorfold_cons, xorfold_cons, ih]
  | swap x y s => simp only [xorfold_cons, ← BitVec.xor_assoc, BitVec.xor_comm]
  | trans _ _ ih₁ ih₂ => exact ih₁.trans ih₂

/-- A byte with bit `k` set turns the parity over; any other leaves it. -/
theorem xorfold_getLsbD (s : ByteSeq) (k : Nat) :
    (xorfold s).getLsbD k = decide (s.countP (fun b => b.getLsbD k) % 2 = 1) := by
  induction s with
  | nil => simp
  | cons x s ih =>
    rw [xorfold_cons, BitVec.getLsbD_xor, ih]
    cases hx : x.getLsbD k with
    | false => rw [Bool.false_xor, List.countP_cons, hx, if_neg Bool.false_ne_true, Nat.add_zero]
    | true =>
      rw [Bool.true_xor, List.countP_cons, if_pos hx, ← decide_not]
      exact decide_eq_decide.2 (by omega)

/-- Settles O12. -/
theorem xorfoldBitIsParity : Obligations.XorfoldBitIsParity :=
  ⟨fun _ => rfl, xorfold_getLsbD⟩

/-- Settles O13. -/
theorem xorfoldLaws : Obligations.XorfoldLaws :=
  ⟨fun _ => ⟨BitVec.xor_zero, BitVec.xor_self⟩, BitVec.xor_comm, BitVec.xor_assoc, xorfold_append, xorfold_perm⟩

/-! ### The three operations -/

/-- Settles O14. -/
theorem csClrClearsAccumulator : Obligations.CsClrClearsAccumulator := by
  refine ⟨fun _ => rfl, fun r hop => ?_, rfl⟩
  rw [decode, hop]
  rfl

/-- Settles O15. -/
theorem csFoldXorsByte : Obligations.CsFoldXorsByte := by
  refine ⟨fun _ _ => rfl, fun r hop => ?_, rfl⟩
  rw [decode, hop]
  rfl

/-- Settles O16: the ports can express the sequence, so the decoder accepts it. -/
theorem csumAnswersFold : Obligations.CsumAnswersFold := by
  refine ⟨fun _ _ => rfl, fun r hop hlen => ?_, fun _ => rfl⟩
  rw [decode, hop]
  exact decodeSeq_of_fits r.aSeq _ (decide_eq_true hlen)

/-! ### Runs of the accumulator -/

/-- The folds alone, from a state that has just answered CS.CLR or CS.FOLD. -/
theorem trace_map_csFold (q : ByteSeq) (s : State) :
    trace (q.map .csFold) { s with result := .done } =
      .next ({ s with acc := s.acc ^^^ xorfold q, result := .done }, List.replicate q.length .done) := by
  induction q generalizing s with
  | nil => rw [xorfold_nil, BitVec.xor_zero]; rfl
  | cons b q ih =>
    have hfold : exec (.csFold b) { s with result := .done } = .next { s with acc := s.acc ^^^ b, result := .done } :=
      rfl
    rw [xorfold_cons, ← BitVec.xor_assoc]
    exact trace_cons_of_next _ _ _ _ _ _ hfold (ih { s with acc := s.acc ^^^ b })

/-- `40_checksum.md` R105: clear and fold computes the checksum. -/
theorem trace_checksumOfByFold (q : ByteSeq) (s : State) :
    trace (checksumOfByFold q) s =
      .next ({ s with acc := xorfold q, result := .done }, List.replicate (q.length + 1) .done) := by
  have hfolds := trace_map_csFold q { s with acc := 0x00#8 }
  rw [BitVec.zero_xor] at hfolds
  exact trace_cons_of_next .csClr _ s _ _ _ rfl hfolds

theorem foldByte_of_parserOp_or_pure (i : Instr) (h : isParserOp i = true ∨ isPure i = true) : foldByte i = none := by
  cases i with
  | csFold b => simp [isParserOp, isPure] at h
  | _ => rfl

@[simp] theorem State.take_acc (s : State) (t : Transition) (b : Byte) : (s.take t b).acc = s.acc := by
  cases t <;> rfl

/-- `10_state.md` R21: of all operations only CS.CLR and CS.FOLD write the accumulator. -/
theorem exec_acc_of_parserOp_or_pure (i : Instr) (s t : State) (hi : isParserOp i = true ∨ isPure i = true)
    (h : exec i s = .next t) : t.acc = s.acc := by
  obtain hparser | hpure := hi
  · obtain ⟨-, rfl⟩ | ⟨tr, b, -, -, rfl, -⟩ := exec_parser_next i s t hparser h
    · rfl
    · exact s.take_acc tr b
  · obtain ⟨r, hr⟩ := exec_pure_next i hpure
    rw [hr] at h
    cases h
    rfl

theorem exec_acc (i : Instr) (s t : State) (hclr : i ≠ .csClr) (h : exec i s = .next t) :
    t.acc = s.acc ^^^ xorfold ([i].filterMap foldByte) := by
  by_cases hi : isParserOp i = true ∨ isPure i = true
  · simp [exec_acc_of_parserOp_or_pure i s t hi h, foldByte_of_parserOp_or_pure i hi]
  · obtain ⟨hparser, hpure⟩ := not_or.1 hi
    obtain rfl | ⟨b, rfl⟩ :=
      csClr_or_csFold_of_not_parserOp_not_pure i (Bool.eq_false_of_not_eq_true hparser)
        (Bool.eq_false_of_not_eq_true hpure)
    · exact absurd rfl hclr
    · cases h
      exact congrArg (s.acc ^^^ ·) (xorfold_singleton b).symm

/-- Between clears the accumulator moves by the fold of the folded bytes, by induction on the operations. -/
theorem trace_acc (ops : List Instr) (s t : State) (rs : List Result) (hclr : Instr.csClr ∉ ops)
    (h : trace ops s = .next (t, rs)) : t.acc = s.acc ^^^ xorfold (ops.filterMap foldByte) := by
  induction ops generalizing s rs with
  | nil => cases h; simp
  | cons i is ih =>
    obtain ⟨u, rs', hexec, hrest, -⟩ := trace_cons_next i is s t rs h
    have hu : u.acc = s.acc ^^^ xorfold ([i].filterMap foldByte) :=
      exec_acc i s u (List.ne_of_not_mem_cons hclr).symm hexec
    have ht : t.acc = u.acc ^^^ xorfold (is.filterMap foldByte) :=
      ih u rs' (List.not_mem_of_not_mem_cons hclr) hrest
    rw [ht, hu, BitVec.xor_assoc, ← xorfold_append, ← List.filterMap_append, List.singleton_append]

/-- Settles O17. -/
theorem accumulatorFollowsFolds : Obligations.AccumulatorFollowsFolds :=
  ⟨trace_checksumOfByFold, trace_acc⟩

/-! ### The verdict as a fold of the covered bytes -/

theorem exec_verify (f : Frame) (s : State) : exec (.verify f) s = .next { s with result := .verdict f.isValid } := rfl

theorem exec_verify_eq_iff (f : Frame) (s : State) (ok : Bool) :
    exec (.verify f) s = .next { s with result := .verdict ok } ↔ f.isValid = ok := by
  rw [exec_verify]
  constructor
  · intro h
    exact Result.verdict.inj (congrArg State.result (Host.Outcome.next.inj h))
  · rintro rfl
    rfl

theorem xorfold_coveredBytes (f : Frame) : xorfold (coveredBytes f) = f.csum ^^^ f.checksum := by
  rw [coveredBytes, xorfold_append, xorfold_singleton]
  rfl

/-- Folding the checksum in as well gives zero exactly on a valid frame (`40_checksum.md` R105, `41_codec.md` R121). -/
theorem isValid_eq_xorfold_beq_zero (f : Frame) : f.isValid = (xorfold (coveredBytes f) == 0x00#8) := by
  rw [xorfold_coveredBytes, Frame.isValid, Bool.eq_iff_iff, beq_iff_eq, beq_iff_eq, BitVec.xor_eq_zero_iff]

theorem acc_of_trace_checksumOfByFold (q : ByteSeq) (s t : State) (rs : List Result)
    (h : trace (checksumOfByFold q) s = .next (t, rs)) : t.acc = xorfold q := by
  rw [trace_checksumOfByFold] at h
  cases h
  rfl

/-- Settles O18: the first run ends with the frame's checksum in the accumulator, the second with the fold of the
covered bytes. -/
theorem streamCheckAgreesWithVerify : Obligations.StreamCheckAgreesWithVerify := by
  intro f s t u rs qs hcompare hfoldIn
  have hcsum : t.acc = f.csum := acc_of_trace_checksumOfByFold _ s t rs hcompare
  have hcovered : u.acc = xorfold (coveredBytes f) := acc_of_trace_checksumOfByFold _ s u qs hfoldIn
  refine ⟨?_, ?_⟩
  · rw [hcsum]
    rfl
  · rw [hcovered, ← isValid_eq_xorfold_beq_zero]
    rfl

/-! ### What the checksum detects -/

/-- The bytes by which two sequences of one length differ, place by place. -/
def differences (s t : ByteSeq) : ByteSeq := (s.zip t).map (fun p => p.1 ^^^ p.2)

theorem xorfold_differences (s t : ByteSeq) (h : s.length = t.length) :
    xorfold (differences s t) = xorfold s ^^^ xorfold t := by
  induction s generalizing t with
  | nil =>
    cases List.eq_nil_of_length_eq_zero h.symm
    rfl
  | cons x s ih =>
    cases t with
    | nil => cases h
    | cons y t =>
      have hrest : xorfold (differences s t) = xorfold s ^^^ xorfold t := ih t (Nat.succ.inj h)
      calc xorfold (differences (x :: s) (y :: t))
          = (x ^^^ y) ^^^ (xorfold s ^^^ xorfold t) := by rw [← hrest, ← xorfold_cons]; rfl
        _ = (x ^^^ xorfold s) ^^^ (y ^^^ xorfold t) := by ac_rfl
        _ = xorfold (x :: s) ^^^ xorfold (y :: t) := by rw [xorfold_cons, xorfold_cons]

theorem countP_differences (s t : ByteSeq) (k : Nat) :
    (differences s t).countP (fun b => b.getLsbD k) =
      (s.zip t).countP (fun p => p.1.getLsbD k != p.2.getLsbD k) := by
  rw [differences, List.countP_map]
  exact List.countP_congr fun p _ => by simp

theorem byte_ne_zero_iff (b : Byte) : b ≠ 0x00#8 ↔ ∃ k, k < 8 ∧ b.getLsbD k = true := by
  constructor
  · intro hne
    by_contra hnone
    refine hne (BitVec.eq_of_getLsbD_eq fun k hk => ?_)
    rw [BitVec.getLsbD_zero]
    exact Bool.eq_false_of_not_eq_true fun hbit => hnone ⟨k, hk, hbit⟩
  · rintro ⟨k, -, hbit⟩ rfl
    simp at hbit

theorem coveredBytes_length (f : Frame) : (coveredBytes f).length = f.length.toNat + 3 := by
  simp [coveredBytes]

/-- `40_checksum.md` R107 on the verdicts: the fold of the differences is what remains of the changed frame's fold. -/
theorem isValid_eq_false_iff_of_isValid (f g : Frame) (hf : f.isValid = true) (hlen : g.length = f.length) :
    g.isValid = false ↔ ∃ k, k < 8 ∧
      ((coveredBytes f).zip (coveredBytes g)).countP (fun p => p.1.getLsbD k != p.2.getLsbD k) % 2 = 1 := by
  have hzero : xorfold (coveredBytes f) = 0x00#8 := by
    rwa [isValid_eq_xorfold_beq_zero, beq_iff_eq] at hf
  have hdiff : xorfold (differences (coveredBytes f) (coveredBytes g)) = xorfold (coveredBytes g) := by
    rw [xorfold_differences _ _ (by rw [coveredBytes_length, coveredBytes_length, hlen]), hzero, BitVec.zero_xor]
  rw [isValid_eq_xorfold_beq_zero, beq_eq_false_iff_ne, ← hdiff, byte_ne_zero_iff]
  simp only [xorfold_getLsbD, countP_differences, decide_eq_true_eq]

/-- V27: flipping bit 0 of the length also drops the one payload byte, whose bits cancel the flip. -/
def lengthFlipFrame : Frame :=
  { startMarker := 0x55#8, messageId := 0x07#8, length := 0x01#8, payload := cellsOf (fun _ => 0x01#8)
    checksum := 0x07#8 }

theorem lengthFlipFrame_isValid :
    lengthFlipFrame.isValid = true ∧
      ({ lengthFlipFrame with length := lengthFlipFrame.length ^^^ 0x01#8 } : Frame).isValid = true := by
  decide

/-- Settles O30. The start marker is not among the covered bytes; a flip of the length that passes is
`lengthFlipFrame`'s. -/
theorem detectionIsBitParity : Obligations.DetectionIsBitParity := by
  obtain ⟨hbefore, hafter⟩ := lengthFlipFrame_isValid
  refine ⟨fun s f g hf hlen => ?_, fun s f m hf => hf, lengthFlipFrame, fun s => ⟨?_, ?_⟩⟩
  · rw [exec_verify_eq_iff] at hf ⊢
    exact isValid_eq_false_iff_of_isValid f g hf hlen
  · exact (exec_verify_eq_iff _ s true).2 hbefore
  · exact (exec_verify_eq_iff _ s true).2 hafter

end Sys2Proof.Machine
end

section
/-!
PROOFS. The codec (`41_codec.md`). BUILD and DESER answer one frame each, made of the bytes of their operand; the wire
form says everything about a frame but its cells at and above `length`, so SER and DESER undo each other up to equality
as frames (`00_scope.md` R9); and the wire form is the start marker before the covered bytes, so what a changed byte does
to the verdict is what it does to their fold.
-/

namespace Sys2Proof.Machine

/-! ### The meaningful bytes of a Frame value -/

theorem frame_bytes_getElem? (f : Frame) (i : Nat) (h : i < f.length.toNat) : f.bytes[i]? = f.payload[i]? := by
  rw [Frame.bytes, List.getElem?_take_of_lt h, Vector.getElem?_toList]

theorem frame_bytes_congr (f g : Frame) (hlen : f.length = g.length)
    (hcells : ∀ i, i < f.length.toNat → f.payload[i]? = g.payload[i]?) : f.bytes = g.bytes := by
  refine List.ext_getElem? fun i => ?_
  by_cases hi : i < f.length.toNat
  · rw [frame_bytes_getElem? f i hi, frame_bytes_getElem? g i (hlen ▸ hi), hcells i hi]
  · rw [List.getElem?_eq_none, List.getElem?_eq_none]
    · rw [frame_bytes_length, ← hlen]; exact Nat.le_of_not_lt hi
    · rw [frame_bytes_length]; exact Nat.le_of_not_lt hi

/-- What the verdict depends on (`41_codec.md` R121): the start marker and the cells at and above `length` are not
among it. -/
theorem isValid_congr (f g : Frame) (hid : f.messageId = g.messageId) (hlen : f.length = g.length)
    (hsum : f.checksum = g.checksum) (hbytes : f.bytes = g.bytes) : f.isValid = g.isValid := by
  rw [Frame.isValid, Frame.isValid, Frame.csum, Frame.csum, hid, hlen, hsum, hbytes]

theorem isValid_eq_of_sameAs (f g : Frame) (h : f.sameAs g) : f.isValid = g.isValid := by
  obtain ⟨-, hid, hlen, hsum, hbytes⟩ := h
  exact isValid_congr f g hid hlen hsum hbytes

/-- Both codec operations that make a frame fill its cells from a sequence up to the length and with zero above (D12). -/
theorem take_cellsOf_ite (g : Nat → Byte) (n : Nat) (h : n ≤ 256) :
    (cellsOf (fun i => if i < n then g i else 0x00#8)).toList.take n = (List.range n).map g := by
  rw [take_cellsOf _ n h]
  exact List.map_congr_left fun i hi => if_pos (List.mem_range.1 hi)

theorem seqByte_eq_getElem (s : ByteSeq) (i : Nat) (h : i < s.length) : seqByte s i = s[i] := by
  simp [seqByte, h]

theorem getElem?_eq_some_seqByte (s : ByteSeq) (i : Nat) (h : i < s.length) : s[i]? = some (seqByte s i) := by
  rw [seqByte_eq_getElem s i h, List.getElem?_eq_getElem h]

theorem map_seqByte_range (s : ByteSeq) (k n : Nat) (h : k + n ≤ s.length) :
    (List.range n).map (fun i => seqByte s (k + i)) = (s.drop k).take n := by
  refine List.ext_getElem (by simp; omega) fun i hi _ => ?_
  have hin : k + i < s.length := by simp at hi; omega
  simp [seqByte_eq_getElem s (k + i) hin]

/-! ### A Frame or an error as the answer -/

theorem next_answerFrame_eq_frame_iff (s : State) (r : Except ErrorCode Frame) (f : Frame) :
    (.next (s.answerFrame r) : Host.Outcome State Fault Refusal) = .next { s with result := .frame f } ↔
      r = .ok f := by
  constructor
  · intro h
    have hresult : (s.answerFrame r).result = .frame f := congrArg State.result (Host.Outcome.next.inj h)
    cases r with
    | ok g => cases hresult; rfl
    | error e => cases hresult
  · rintro rfl
    rfl

theorem exec_build_eq_frame_iff (msg : ByteSeq) (ident : Byte) (n : BitVec 16) (s : State) (f : Frame) :
    exec (.build msg ident n) s = .next { s with result := .frame f } ↔ buildFrame msg ident n = .ok f :=
  next_answerFrame_eq_frame_iff s (buildFrame msg ident n) f

theorem exec_deser_eq_frame_iff (buf : ByteSeq) (s : State) (f : Frame) :
    exec (.deser buf) s = .next { s with result := .frame f } ↔ deserialise buf = .ok f :=
  next_answerFrame_eq_frame_iff s (deserialise buf) f

theorem exec_build_of_error (msg : ByteSeq) (ident : Byte) (n : BitVec 16) (e : ErrorCode) (s : State)
    (h : buildFrame msg ident n = .error e) : exec (.build msg ident n) s = .next { s with result := .error e } := by
  simp only [exec, execBuild, h]
  rfl

theorem exec_deser_of_error (buf : ByteSeq) (e : ErrorCode) (s : State) (h : deserialise buf = .error e) :
    exec (.deser buf) s = .next { s with result := .error e } := by
  simp only [exec, execDeser, h]
  rfl

/-! ### BUILD -/

theorem buildFrame_of_oversized (msg : ByteSeq) (ident : Byte) (n : BitVec 16) (h : 255 < n.toNat) :
    buildFrame msg ident n = .error .oversizedPayload :=
  if_pos h

theorem buildFrame_of_short (msg : ByteSeq) (ident : Byte) (n : BitVec 16) (hn : n.toNat ≤ 255)
    (h : msg.length < n.toNat) : buildFrame msg ident n = .error .messageTooShort := by
  rw [buildFrame, if_neg (Nat.not_lt.2 hn), if_pos h]

theorem buildFrame_of_fits (msg : ByteSeq) (ident : Byte) (n : BitVec 16) (hn : n.toNat ≤ 255)
    (h : n.toNat ≤ msg.length) : buildFrame msg ident n = .ok (builtFrame msg ident n) := by
  rw [buildFrame, if_neg (Nat.not_lt.2 hn), if_neg (Nat.not_lt.2 h)]

theorem buildFrame_eq_ok_iff (msg : ByteSeq) (ident : Byte) (n : BitVec 16) (f : Frame) :
    buildFrame msg ident n = .ok f ↔ n.toNat ≤ 255 ∧ n.toNat ≤ msg.length ∧ builtFrame msg ident n = f := by
  by_cases hn : n.toNat ≤ 255
  · by_cases hm : n.toNat ≤ msg.length
    · simp [buildFrame_of_fits msg ident n hn hm, hn, hm]
    · simp [buildFrame_of_short msg ident n hn (Nat.lt_of_not_le hm), hm]
  · simp [buildFrame_of_oversized msg ident n (Nat.lt_of_not_le hn), hn]

theorem builtFrame_length_toNat (msg : ByteSeq) (ident : Byte) (n : BitVec 16) (hn : n.toNat ≤ 255) :
    (builtFrame msg ident n).length.toNat = n.toNat := by
  simp only [builtFrame, BitVec.truncate_eq_setWidth, BitVec.toNat_setWidth]
  omega

theorem builtFrame_bytes (msg : ByteSeq) (ident : Byte) (n : BitVec 16) (hn : n.toNat ≤ 255)
    (h : n.toNat ≤ msg.length) : (builtFrame msg ident n).bytes = msg.take n.toNat := by
  have hrange := map_seqByte_range msg 0 n.toNat (by omega)
  simp only [Nat.zero_add, List.drop_zero] at hrange
  rw [Frame.bytes, builtFrame_length_toNat msg ident n hn, ← hrange]
  exact take_cellsOf_ite (seqByte msg) n.toNat (by omega)

/-- `41_codec.md` R118 (b). -/
theorem builtFrame_isValid (msg : ByteSeq) (ident : Byte) (n : BitVec 16) (hn : n.toNat ≤ 255)
    (h : n.toNat ≤ msg.length) : (builtFrame msg ident n).isValid = true := by
  rw [Frame.isValid, Frame.csum, builtFrame_bytes msg ident n hn h, beq_iff_eq]
  rfl

/-- Settles O20. -/
theorem buildRejectsOversizedThenShort : Obligations.BuildRejectsOversizedThenShort :=
  ⟨fun s msg ident n hn => exec_build_of_error msg ident n _ s (buildFrame_of_oversized msg ident n hn),
    fun s msg ident n hn hm => exec_build_of_error msg ident n _ s (buildFrame_of_short msg ident n hn hm)⟩

/-- Settles O19: the payload cells below the length are the frame's meaningful bytes, and those are the message's. -/
theorem buildAnswersFrame : Obligations.BuildAnswersFrame := by
  refine ⟨fun s msg ident n hn hm => ?_, fun r hop hlen => ?_⟩
  · have hlength := builtFrame_length_toNat msg ident n hn
    refine ⟨builtFrame msg ident n, ?_, rfl, rfl, hlength, fun i hi => ?_, rfl⟩
    · exact (exec_build_eq_frame_iff msg ident n s _).2 (buildFrame_of_fits msg ident n hn hm)
    · rw [← frame_bytes_getElem? _ i (hlength ▸ hi), builtFrame_bytes msg ident n hn hm, List.getElem?_take_of_lt hi]
  · rw [decode, hop]
    exact decodeSeq_of_fits r.aSeq _ (decide_eq_true hlen)

/-- Settles O21: a frame BUILD answers is `builtFrame` of its operands, which no state enters. -/
theorem builtFrameVerifies : Obligations.BuiltFrameVerifies := by
  intro s s' msg ident n f hbuild
  have hok : buildFrame msg ident n = .ok f := (exec_build_eq_frame_iff msg ident n s f).1 hbuild
  obtain ⟨hn, hm, rfl⟩ := (buildFrame_eq_ok_iff msg ident n f).1 hok
  exact ⟨(exec_build_eq_frame_iff msg ident n s' _).2 hok,
    (exec_verify_eq_iff _ s' true).2 (builtFrame_isValid msg ident n hn hm)⟩

/-! ### VERIFY -/

/-- Settles O22. -/
theorem verifyComparesChecksum : Obligations.VerifyComparesChecksum := by
  refine ⟨fun s f => ?_, fun r hop => ?_, rfl, rfl, rfl, rfl⟩
  · rw [exec_verify_eq_iff, Frame.isValid, Bool.eq_iff_iff, beq_iff_eq, decide_eq_true_iff]
    exact eq_comm
  · rw [decode, hop]
    rfl

/-- Settles O23: frames that agree on the cells below the length have the same meaningful bytes. -/
theorem verifyReadsNothingElse : Obligations.VerifyReadsNothingElse := by
  intro s f g hid hlen hsum hcells
  have hvalid : f.isValid = g.isValid := isValid_congr f g hid hlen hsum (frame_bytes_congr f g hlen hcells)
  exact ⟨g.isValid, (exec_verify_eq_iff f s _).2 hvalid, exec_verify g s⟩

/-! ### SER and the wire form -/

theorem exec_ser (f : Frame) (s : State) : exec (.ser f) s = .next { s with result := .seq (serialise f) } := rfl

/-- The count on `r_seq_n` is the size the length byte announces (`30_encoding.md` R73). -/
theorem rSeqN_serialise (f : Frame) : (Result.seq (serialise f)).rSeqN = some (wireSize f.length) := by
  rw [Result.rSeqN, serialise_length, ← wireSize_toNat, BitVec.ofNat_toNat, BitVec.setWidth_eq]

/-- Settles O24. -/
theorem serEmitsWireOrder : Obligations.SerEmitsWireOrder := by
  refine ⟨fun s f => ⟨serialise f, exec_ser f s, rfl, serialise_length f, rSeqN_serialise f, rfl⟩, fun r hop => ?_⟩
  rw [decode, hop]
  rfl

/-- The covered bytes are the wire form without the start marker (`40_checksum.md` R107). -/
theorem serialise_eq_cons_coveredBytes (f : Frame) : serialise f = f.startMarker :: coveredBytes f := rfl

/-- The wire form holds all that equality as frames compares. -/
theorem sameAs_of_serialise_eq (f g : Frame) (h : serialise f = serialise g) : f.sameAs g := by
  simp only [serialise, List.cons_append, List.nil_append, List.cons.injEq] at h
  obtain ⟨hmarker, hid, hlen, htail⟩ := h
  obtain ⟨hbytes, hsum⟩ := List.append_inj' htail rfl
  exact ⟨hmarker, hid, hlen, List.singleton_inj.1 hsum, hbytes⟩

/-! ### DESER -/

/-- A buffer of fewer than 3 bytes is shorter than any frame, so the two tests of `41_codec.md` R129 are one. -/
theorem deserialise_of_short (buf : ByteSeq) (h : buf.length < 4 + (seqByte buf 2).toNat) :
    deserialise buf = .error .truncatedInput := by
  rw [deserialise, wireSize_toNat, if_pos h, ite_self]

theorem deserialise_of_complete (buf : ByteSeq) (h : 4 + (seqByte buf 2).toNat ≤ buf.length) :
    deserialise buf = .ok (decodedFrame buf) := by
  rw [deserialise, wireSize_toNat, if_neg (by omega), if_neg (by omega)]

theorem deserialise_eq_ok_iff (buf : ByteSeq) (f : Frame) :
    deserialise buf = .ok f ↔ 4 + (seqByte buf 2).toNat ≤ buf.length ∧ decodedFrame buf = f := by
  by_cases h : 4 + (seqByte buf 2).toNat ≤ buf.length
  · simp [deserialise_of_complete buf h, h]
  · simp [deserialise_of_short buf (Nat.lt_of_not_le h), h]

theorem seqByte_of_getElem? (s : ByteSeq) (i : Nat) (b : Byte) (h : s[i]? = some b) : seqByte s i = b := by
  rw [seqByte, List.getD_eq_getElem?_getD, h, Option.getD_some]

theorem decodedFrame_bytes (buf : ByteSeq) (h : 4 + (seqByte buf 2).toNat ≤ buf.length) :
    (decodedFrame buf).bytes = (buf.drop 3).take (seqByte buf 2).toNat := by
  have hlen := (seqByte buf 2).isLt
  rw [← map_seqByte_range buf 3 (seqByte buf 2).toNat (by omega)]
  exact take_cellsOf_ite _ (seqByte buf 2).toNat (by omega)

/-- Settles O26. -/
theorem deserRejectsTruncatedBuffer : Obligations.DeserRejectsTruncatedBuffer := by
  refine ⟨fun s buf h => ?_, fun s buf len hlen h => ?_⟩
  · exact exec_deser_of_error buf _ s (deserialise_of_short buf (by omega))
  · rw [← seqByte_of_getElem? buf 2 len hlen] at h
    exact exec_deser_of_error buf _ s (deserialise_of_short buf h)

/-- Settles O25: the payload cells below the length are the frame's meaningful bytes, and those are the buffer's after
the header. -/
theorem deserDecodesCompleteBuffer : Obligations.DeserDecodesCompleteBuffer := by
  refine ⟨fun s buf len hlen hfull => ?_, fun r hop hlen => ?_⟩
  · obtain rfl := seqByte_of_getElem? buf 2 len hlen
    refine ⟨decodedFrame buf, ?_, ?_, ?_, rfl, fun i hi => ?_, ?_⟩
    · exact (exec_deser_eq_frame_iff buf s _).2 (deserialise_of_complete buf hfull)
    · exact (getElem?_eq_some_seqByte buf 0 (by omega)).symm
    · exact (getElem?_eq_some_seqByte buf 1 (by omega)).symm
    · rw [← frame_bytes_getElem? (decodedFrame buf) i hi, decodedFrame_bytes buf hfull, List.getElem?_take_of_lt hi,
        List.getElem?_drop]
    · exact (getElem?_eq_some_seqByte buf _ (by omega)).symm
  · rw [decode, hop]
    exact decodeSeq_of_fits r.aSeq _ (decide_eq_true hlen)

/-! ### SER and DESER undo each other -/

/-- `41_codec.md` R131, second law, on a complete buffer. -/
theorem serialise_decodedFrame (buf : ByteSeq) (h : 4 + (seqByte buf 2).toNat ≤ buf.length) :
    serialise (decodedFrame buf) = buf.take (4 + (seqByte buf 2).toNat) := by
  have hheader : [seqByte buf 0, seqByte buf 1, seqByte buf 2] = buf.take 3 := map_seqByte_range buf 0 3 (by omega)
  have hlast : 3 + (seqByte buf 2).toNat < buf.length := by omega
  calc serialise (decodedFrame buf)
      = [seqByte buf 0, seqByte buf 1, seqByte buf 2] ++ (buf.drop 3).take (seqByte buf 2).toNat ++
          [seqByte buf (3 + (seqByte buf 2).toNat)] := by rw [serialise, decodedFrame_bytes buf h]; rfl
    _ = buf.take (3 + (seqByte buf 2).toNat) ++ [buf[3 + (seqByte buf 2).toNat]] := by
          rw [hheader, ← List.take_add, seqByte_eq_getElem buf _ hlast]
    _ = buf.take (4 + (seqByte buf 2).toNat) := by rw [List.take_append_getElem hlast]; congr 1; omega

theorem deserialise_serialise (f : Frame) : deserialise (serialise f) = .ok (decodedFrame (serialise f)) :=
  deserialise_of_complete (serialise f) (serialise_length f).ge

/-- `41_codec.md` R131, first law: the frame decoded from the wire form has that wire form. -/
theorem decodedFrame_serialise_sameAs (f : Frame) : (decodedFrame (serialise f)).sameAs f := by
  refine sameAs_of_serialise_eq _ f ?_
  rw [serialise_decodedFrame (serialise f) (serialise_length f).ge]
  exact List.take_of_length_le (serialise_length f).le

/-- Settles O27. -/
theorem serAndDeserAreInverse : Obligations.SerAndDeserAreInverse := by
  refine ⟨fun s f => ?_, fun s buf f hdeser => ?_⟩
  · exact ⟨serialise f, decodedFrame (serialise f), exec_ser f s,
      (exec_deser_eq_frame_iff _ s _).2 (deserialise_serialise f), decodedFrame_serialise_sameAs f⟩
  · obtain ⟨hfull, rfl⟩ := (deserialise_eq_ok_iff buf f).1 ((exec_deser_eq_frame_iff buf s f).1 hdeser)
    rw [exec_ser, serialise_decodedFrame buf hfull]
    rfl

/-! ### ENCODE and DECODE -/

theorem encodeMessage_of_ok (msg : ByteSeq) (ident : Byte) (n : BitVec 16) (s : State) (f : Frame)
    (h : buildFrame msg ident n = .ok f) :
    encodeMessage msg ident n s =
      .next ({ s with result := .seq (serialise f) }, [.frame f, .seq (serialise f)]) := by
  have hbuild := (exec_build_eq_frame_iff msg ident n s f).2 h
  simp only [encodeMessage, onFrame, hbuild, trace, exec_ser]

theorem decodeBuffer_of_ok (buf : ByteSeq) (s : State) (f : Frame) (h : deserialise buf = .ok f) :
    decodeBuffer buf s = .next ({ s with result := .verdict f.isValid }, [.frame f, .verdict f.isValid]) := by
  have hdeser := (exec_deser_eq_frame_iff buf s f).2 h
  simp only [decodeBuffer, onFrame, hdeser, trace, exec_verify]

/-- Bytes come out of ENCODE only when BUILD answers a frame, and they are its wire form. -/
theorem encodeMessage_next_seq (msg : ByteSeq) (ident : Byte) (n : BitVec 16) (s u : State) (f : Frame) (w : ByteSeq)
    (h : encodeMessage msg ident n s = .next (u, [.frame f, .seq w])) :
    buildFrame msg ident n = .ok f ∧ w = serialise f := by
  cases hb : buildFrame msg ident n with
  | ok g =>
    rw [encodeMessage_of_ok msg ident n s g hb] at h
    cases h
    exact ⟨rfl, rfl⟩
  | error e =>
    simp only [encodeMessage, onFrame, exec_build_of_error msg ident n e s hb] at h
    cases h

/-- Settles O28: what comes back is the frame built, as frames go. -/
theorem messageSurvivesEncodeDecode : Obligations.MessageSurvivesEncodeDecode := by
  intro s msg ident n hn hm
  have hencode := encodeMessage_of_ok msg ident n s _ (buildFrame_of_fits msg ident n hn hm)
  have hdecode := decodeBuffer_of_ok _ s _ (deserialise_serialise (builtFrame msg ident n))
  have hsame := decodedFrame_serialise_sameAs (builtFrame msg ident n)
  rw [isValid_eq_of_sameAs _ _ hsame, builtFrame_isValid msg ident n hn hm] at hdecode
  obtain ⟨-, hid, hlen, -, hbytes⟩ := hsame
  have hcount := (congrArg BitVec.toNat hlen).trans (builtFrame_length_toNat msg ident n hn)
  refine ⟨_, _, _, hencode, hdecode, hid, hcount, ?_⟩
  rw [builtFrame_bytes msg ident n hn hm, Frame.bytes, hcount] at hbytes
  exact hbytes

/-! ### One changed byte -/

theorem xorfold_set (s : ByteSeq) (k : Nat) (b : Byte) (h : k < s.length) :
    xorfold (s.set k b) = xorfold s ^^^ (s[k] ^^^ b) := by
  induction s generalizing k with
  | nil => cases h
  | cons x s ih =>
    cases k with
    | zero =>
      rw [List.set_cons_zero, List.getElem_cons_zero, xorfold_cons, xorfold_cons, BitVec.xor_comm x, BitVec.xor_assoc,
        ← BitVec.xor_assoc x, BitVec.xor_self, BitVec.zero_xor, BitVec.xor_comm]
    | succ k =>
      rw [List.set_cons_succ, List.getElem_cons_succ, xorfold_cons, xorfold_cons, ih k (Nat.lt_of_succ_lt_succ h),
        BitVec.xor_assoc]

/-- A frame whose covered bytes are those of a valid frame but for one is not valid. -/
theorem isValid_eq_false_of_set (f g : Frame) (k : Nat) (b : Byte) (hf : f.isValid = true)
    (hk : k < (coveredBytes f).length) (hb : (coveredBytes f)[k] ≠ b)
    (hg : coveredBytes g = (coveredBytes f).set k b) : g.isValid = false := by
  rw [isValid_eq_xorfold_beq_zero, beq_iff_eq] at hf
  rw [isValid_eq_xorfold_beq_zero, beq_eq_false_iff_ne, hg, xorfold_set _ k b hk, hf, BitVec.zero_xor, Ne,
    BitVec.xor_eq_zero_iff]
  exact hb

/-- Replacing a byte other than the length leaves a decodable buffer, and nothing else of its wire form changes. -/
theorem deserialise_set_serialise (f : Frame) (j : Nat) (b : Byte) (hj : j ≠ 2) :
    ∃ g, deserialise ((serialise f).set j b) = .ok g ∧ serialise g = (serialise f).set j b := by
  have hlen : seqByte ((serialise f).set j b) 2 = f.length := by
    rw [seqByte, List.getD_eq_getElem?_getD, List.getElem?_set_ne hj]
    rfl
  have hsize : ((serialise f).set j b).length = 4 + (seqByte ((serialise f).set j b) 2).toNat := by
    rw [List.length_set, serialise_length, hlen]
  refine ⟨_, deserialise_of_complete _ hsize.ge, ?_⟩
  rw [serialise_decodedFrame _ hsize.ge]
  exact List.take_of_length_le hsize.le

/-- Settles O29: the frame decoded has the covered bytes of the frame built but for the one replaced. -/
theorem oneByteChangeIsRejected : Obligations.OneByteChangeIsRejected := by
  intro s u msg ident n f w j b hencode hj hmarker hlength hb
  obtain ⟨hbuild, rfl⟩ := encodeMessage_next_seq msg ident n s u f w hencode
  obtain ⟨hn, hm, rfl⟩ := (buildFrame_eq_ok_iff msg ident n f).1 hbuild
  obtain ⟨g, hg, hwire⟩ := deserialise_set_serialise (builtFrame msg ident n) j b hlength
  obtain ⟨k, rfl⟩ := Nat.exists_eq_succ_of_ne_zero hmarker
  rw [serialise_eq_cons_coveredBytes] at hj hb hwire
  have hk : k < (coveredBytes (builtFrame msg ident n)).length := Nat.lt_of_succ_lt_succ hj
  have hcovered : coveredBytes g = (coveredBytes (builtFrame msg ident n)).set k b := congrArg List.tail hwire
  rw [List.getElem?_cons_succ, List.getElem?_eq_getElem hk, Ne, Option.some_inj] at hb
  have hrejected := isValid_eq_false_of_set _ g k b (builtFrame_isValid msg ident n hn hm) hk hb hcovered
  exact ⟨g, hrejected ▸ decodeBuffer_of_ok _ s g hg⟩

end Sys2Proof.Machine
end

section
/-!
PROOFS. The incremental parser on the bytes of one frame (`42_parser.md` R141 to R149, `41_codec.md` R132). One predicate
says what the parser holds past the length byte, with the payload received so far: the length byte establishes it with
nothing received, whether it leads to READ_PAYLOAD or straight to VERIFY_CHECKSUM; each payload byte extends it; and with
all of the payload received, the frame buffer holds it.
-/

namespace Sys2Proof.Machine

/-! ### Runs in two parts -/

theorem trace_append_of_next (is js : List Instr) (s u t : State) (rs qs : List Result)
    (hfirst : trace is s = .next (u, rs)) (hrest : trace js u = .next (t, qs)) :
    trace (is ++ js) s = .next (t, rs ++ qs) := by
  induction is generalizing s rs with
  | nil => cases hfirst; exact hrest
  | cons i is ih =>
    obtain ⟨v, rs', hexec, hfirst', rfl⟩ := trace_cons_next i is s u rs hfirst
    exact trace_cons_of_next i (is ++ js) s v t _ hexec (ih v rs' hfirst')

theorem feed_append (p q : ByteSeq) : feed (p ++ q) = feed p ++ feed q := List.map_append

/-- A byte inside a frame puts one Incomplete in front. -/
theorem trace_feed_cons_of_incomplete (b : Byte) (q : ByteSeq) (s u t : State) (n : Nat) (rs : List Result)
    (hexec : exec (.pByte b) s = .next u) (hresult : u.result = .status .incomplete)
    (hrest : trace (feed q) u = .next (t, List.replicate n (.status .incomplete) ++ rs)) :
    trace (feed (b :: q)) s = .next (t, List.replicate (n + 1) (.status .incomplete) ++ rs) := by
  have hrun := trace_cons_of_next (.pByte b) (feed q) s u t _ hexec hrest
  rwa [hresult] at hrun

/-! ### Past the length byte -/

/-- The parser is past the length byte `len` of a frame and has received the payload bytes `p`. -/
structure State.HasReceived (s : State) (marker ident len : Byte) (p : ByteSeq) : Prop where
  pstate : s.pstate = if p.length < len.toNat then .readPayload else .verifyChecksum
  hdrCount : s.hdrCount = 2#2
  cursor : s.cursor.toNat = p.length
  startMarker : s.pfStartMarker = marker
  messageId : s.pfMessageId = ident
  length : s.pfLength = len
  cells : (List.range p.length).map s.readCell = p

/-- `42_parser.md` R145 and R146: the length byte starts the payload, or skips it when there is none. -/
theorem exec_pByte_length (s : State) (len : Byte) (hp : s.pstate = .readHeader) (hh : s.hdrCount = 2#2) :
    ∃ u, exec (.pByte len) s = .next u ∧ u.result = .status .incomplete ∧
      u.HasReceived s.pfStartMarker s.pfMessageId len [] := by
  have h3 : s.hdrCount ≠ 3#2 := by simp [hh]
  by_cases hlen : len = 0x00#8
  · subst hlen
    exact ⟨s.takeLen0, exec_pByte_of_row s _ .len0 h3 ⟨hp, hh, rfl⟩, rfl, rfl, hh, rfl, rfl, rfl, rfl, rfl⟩
  · have hpos : 0 < len.toNat := Nat.pos_of_ne_zero fun h => hlen (BitVec.eq_of_toNat_eq h)
    exact ⟨s.takeLen len, exec_pByte_of_row s len .len h3 ⟨hp, hh, hlen⟩, rfl, (if_pos hpos).symm, hh, rfl, rfl, rfl,
      rfl, rfl⟩

/-- What P.PAY and P.PAYL share: the cells hold the payload with the byte stored. -/
theorem map_readCell_storePayload (s : State) (p : ByteSeq) (b : Byte) (hc : s.cursor.toNat = p.length)
    (hcells : (List.range p.length).map s.readCell = p) :
    (List.range (p ++ [b]).length).map (s.storePayload b).readCell = p ++ [b] := by
  have hbelow : (List.range p.length).map (s.storePayload b).readCell = p := by
    refine Eq.trans (List.map_congr_left fun i hi => ?_) hcells
    rw [State.readCell_storePayload, if_neg (by have := List.mem_range.1 hi; omega)]
  rw [List.length_append, List.length_singleton, List.range_succ, List.map_append, hbelow, List.map_singleton,
    State.readCell_storePayload, if_pos hc.symm]

/-- `42_parser.md` R147 and R148: a payload byte is stored, and the last one ends the payload. -/
theorem exec_pByte_payload (s : State) (marker ident len b : Byte) (p : ByteSeq)
    (hs : s.HasReceived marker ident len p) (hlt : p.length < len.toNat) :
    ∃ u, exec (.pByte b) s = .next u ∧ u.result = .status .incomplete ∧
      u.HasReceived marker ident len (p ++ [b]) := by
  obtain ⟨hp, hh, hc, hmarker, hid, hlen, hcells⟩ := hs
  rw [if_pos hlt] at hp
  have h3 : s.hdrCount ≠ 3#2 := by simp [hh]
  have hcount : (p ++ [b]).length = p.length + 1 := by simp
  have hcursor : (s.cursor + 1#8).toNat = (p ++ [b]).length := by
    rw [cursor_succ_toNat s.cursor len (hc ▸ hlt), hc, hcount]
  have hstored := map_readCell_storePayload s p b hc hcells
  by_cases hlast : p.length + 1 < len.toNat
  · have hrow : Transition.pay.RowMatches s.key b := ⟨hp, by simpa [hc, hlen] using hlast⟩
    have hstate : s.pstate = if (p ++ [b]).length < len.toNat then .readPayload else .verifyChecksum := by
      rw [hcount, if_pos hlast, hp]
    exact ⟨s.takePay b, exec_pByte_of_row s b .pay h3 hrow, rfl, hstate, hh, hcursor, hmarker, hid, hlen, hstored⟩
  · have hrow : Transition.payl.RowMatches s.key b := ⟨hp, by simp [hc, hlen]; omega⟩
    have hstate : PState.verifyChecksum = if (p ++ [b]).length < len.toNat then .readPayload else .verifyChecksum := by
      rw [hcount, if_neg hlast]
    exact ⟨s.takePayl b, exec_pByte_of_row s b .payl h3 hrow, rfl, hstate, hh, hcursor, hmarker, hid, hlen, hstored⟩

theorem trace_feed_payload (s : State) (marker ident len : Byte) (p q : ByteSeq)
    (hs : s.HasReceived marker ident len p) (hfit : p.length + q.length ≤ len.toNat) :
    ∃ t, trace (feed q) s = .next (t, List.replicate q.length (.status .incomplete)) ∧
      t.HasReceived marker ident len (p ++ q) := by
  induction q generalizing s p with
  | nil => exact ⟨s, rfl, by rwa [List.append_nil]⟩
  | cons b q ih =>
    rw [List.length_cons] at hfit
    obtain ⟨u, hexec, hresult, hu⟩ := exec_pByte_payload s marker ident len b p hs (by omega)
    obtain ⟨t, hrest, ht⟩ := ih u (p ++ [b]) hu (by rw [List.length_append, List.length_singleton]; omega)
    have hrun := trace_cons_of_next (.pByte b) (feed q) s u t _ hexec hrest
    rw [hresult] at hrun
    exact ⟨t, hrun, by rwa [List.append_assoc] at ht⟩

/-- `42_parser.md` R149 with all of the payload received. -/
theorem exec_pByte_checksum (s : State) (marker ident len c : Byte) (p : ByteSeq)
    (hs : s.HasReceived marker ident len p) (hfull : p.length = len.toNat) :
    exec (.pByte c) s = .next (s.takeCsum c) ∧ (s.takeCsum c).pFrame.bytes = p := by
  obtain ⟨hp, hh, -, -, -, hlen, hcells⟩ := hs
  rw [if_neg hfull.not_lt] at hp
  refine ⟨exec_pByte_of_row s c .csum (by simp [hh]) hp, ?_⟩
  rw [pFrame_bytes, State.takeCsum_pfLength, hlen, ← hfull]
  exact hcells

/-- The verdict of P.CSUM is that of the completed frame, which `p_frame` keeps showing (`42_parser.md` R156). -/
theorem takeCsum_result_eq_statusOf_pFrame (s : State) (b : Byte) :
    (s.takeCsum b).result = .status (statusOf (s.takeCsum b).pFrame.isValid) := rfl

/-! ### Whole frames -/

/-- The header, the payload and the checksum of any frame with the right start marker. -/
theorem trace_feed_serialise (s : State) (f : Frame) (hmarker : f.startMarker = 0x55#8) (hp : s.pstate = .waitStart)
    (h3 : s.hdrCount ≠ 3#2) :
    ∃ t, trace (feed (serialise f)) s =
        .next (t, List.replicate (3 + f.length.toNat) (.status .incomplete) ++ [.status (statusOf f.isValid)]) ∧
      t.pFrame.sameAs f ∧ t.pstate = .waitStart := by
  have hsync : exec (.pByte f.startMarker) s = .next (s.takeSync f.startMarker) :=
    exec_pByte_of_row s _ .sync h3 ⟨hp, hmarker⟩
  have hident : exec (.pByte f.messageId) (s.takeSync f.startMarker) =
      .next ((s.takeSync f.startMarker).takeIdent f.messageId) :=
    exec_pByte_of_row _ _ .ident (by simp) ⟨rfl, rfl⟩
  obtain ⟨u, hlength, hresult, hu⟩ :=
    exec_pByte_length ((s.takeSync f.startMarker).takeIdent f.messageId) f.length rfl rfl
  obtain ⟨v, hpayload, hv⟩ := trace_feed_payload u _ _ _ [] f.bytes hu (by simp)
  obtain ⟨hchecksum, hbytes⟩ := exec_pByte_checksum v _ _ _ f.checksum f.bytes hv (frame_bytes_length f)
  have hsame : (v.takeCsum f.checksum).pFrame.sameAs f := ⟨hv.startMarker, hv.messageId, hv.length, rfl, hbytes⟩
  have hverdict : trace (feed [f.checksum]) v = .next (v.takeCsum f.checksum, [.status (statusOf f.isValid)]) := by
    rw [← isValid_eq_of_sameAs _ f hsame, ← takeCsum_result_eq_statusOf_pFrame]
    exact trace_cons_of_next _ [] v _ _ _ hchecksum rfl
  have hbody := trace_append_of_next _ _ u v _ _ _ hpayload hverdict
  rw [← feed_append, frame_bytes_length] at hbody
  rw [Nat.add_comm 3]
  exact ⟨v.takeCsum f.checksum, trace_feed_cons_of_incomplete _ _ s _ _ _ _ hsync rfl
    (trace_feed_cons_of_incomplete _ _ _ _ _ _ _ hident rfl
      (trace_feed_cons_of_incomplete _ _ _ u _ _ _ hlength hresult hbody)), hsame, rfl⟩

/-- Settles O55: the frame buffer ends up equal to `f` as frames, so the verdict of P.CSUM is that of VERIFY. -/
theorem parserAgreesWithDirectPath : Obligations.ParserAgreesWithDirectPath := by
  intro s f hmarker hp h3
  obtain ⟨t, hrun, hsame, hwait⟩ := trace_feed_serialise s f hmarker hp h3
  exact ⟨serialise f, t, f.isValid, exec_ser f s, exec_verify f s, hrun, hsame, hwait⟩

end Sys2Proof.Machine
end

section
/-!
PROOFS. What one byte does to the parser, and what every other operation leaves of it (`42_parser.md` R140 to R151,
R156 to R158). A transition is said once, for P.BYTE and for its row together; and of the parser's part of the block a
step does one of three things: it keeps it, it re-arms it, or it takes a transition whose row matches.
-/

namespace Sys2Proof.Machine

/-! ### One transition -/

/-- Where a row matches, P.BYTE and the row as an instruction have the same effect (`30_encoding.md` R84). -/
theorem exec_pByte_and_toInstr_of_row (s : State) (b : Byte) (t : Transition) (h3 : s.hdrCount ≠ 3#2)
    (h : t.RowMatches s.key b) :
    exec (.pByte b) s = .next (s.take t b) ∧ exec (t.toInstr b) s = .next (s.take t b) :=
  ⟨exec_pByte_of_row s b t h3 h, exec_toInstr_of_row s b t h3 h⟩

/-- The rows exclude each other wherever one is selected. -/
theorem rowMatches_unique (k : Key) (b : Byte) (t t' : Transition) (h3 : k.hdrCount ≠ 3#2) (h : t.RowMatches k b)
    (h' : t'.RowMatches k b) : t' = t := by
  have hsel := (transitionOf_eq_some_iff k b t).2 ⟨h3, h⟩
  have hsel' := (transitionOf_eq_some_iff k b t').2 ⟨h3, h'⟩
  exact Option.some_inj.1 (hsel'.symm.trans hsel)

/-- If P.BYTE answers a next state, it took a transition whose row matches. -/
theorem exec_pByte_next (s t : State) (b : Byte) (h : exec (.pByte b) s = .next t) :
    s.hdrCount ≠ 3#2 ∧ ∃ tr : Transition, tr.RowMatches s.key b ∧ t = s.take tr b := by
  obtain ⟨hinit, -⟩ | ⟨tr, b', h3, hrow, rfl, hform⟩ := exec_parser_next (.pByte b) s t rfl h
  · cases hinit
  · obtain hb | hrowInstr := hform
    · cases hb
      exact ⟨h3, tr, hrow, rfl⟩
    · cases tr <;> cases hrowInstr

theorem exec_pByte_of_no_row (s : State) (b : Byte) (h : transitionOf s.key b = none) :
    exec (.pByte b) s = .fault (.noTransition s.key) := by
  simp only [exec, execPByte, h]

theorem transitionOf_eq_none_of_fault (s : State) (b : Byte) (f : Fault) (h : exec (.pByte b) s = .fault f) :
    transitionOf s.key b = none := by
  refine Option.eq_none_iff_forall_ne_some.2 fun t hsel => ?_
  obtain ⟨h3, hrow⟩ := (transitionOf_eq_some_iff s.key b t).1 hsel
  rw [exec_pByte_of_row s b t h3 hrow] at h
  cases h

/-- Only P.CSUM answers anything but Incomplete. -/
theorem take_result_of_ne_csum (s : State) (t : Transition) (b : Byte) (h : t ≠ .csum) :
    (s.take t b).result = .status .incomplete := by
  cases t with
  | csum => exact absurd rfl h
  | sync | skip | ident | len | len0 | pay | payl => rfl

theorem exists_take_result_eq_status (s : State) (t : Transition) (b : Byte) :
    ∃ st, (s.take t b).result = .status st := by
  by_cases h : t = .csum
  · exact h ▸ ⟨_, s.takeCsum_result b⟩
  · exact ⟨_, take_result_of_ne_csum s t b h⟩

theorem errorOf_status (st : Status) :
    (Result.status st).errorOf = if st = .frameCorrupted then some .checksumMismatch else none := by
  cases st <;> rfl

/-- Settles O32: a state with a meaning selects a row, and any row that matches is the selected one. -/
theorem pByteTakesTheMatchingRow : Obligations.PByteTakesTheMatchingRow := by
  refine ⟨fun s b hmeaning => ?_, fun r hop => ?_⟩
  · obtain ⟨t, hsel⟩ := (exists_transitionOf_iff s b).2 hmeaning
    obtain ⟨h3, hrow⟩ := (transitionOf_eq_some_iff s.key b t).1 hsel
    obtain ⟨hbyte, hinstr⟩ := exec_pByte_and_toInstr_of_row s b t h3 hrow
    obtain ⟨st, hst⟩ := exists_take_result_eq_status s t b
    exact ⟨t, s.take t b, st, hrow, fun t' hrow' => rowMatches_unique s.key b t t' h3 hrow hrow', hbyte, hinstr, hst,
      hst ▸ errorOf_status st⟩
  · rw [decode, hop]
    rfl

/-! ### Faults and re-arming -/

theorem sequenced_hardwareReset (s : State) : s.hardwareReset.Sequenced :=
  sequenced_of_waitStart s.hardwareReset rfl rfl rfl

theorem step_of_rst (s : State) (r : Inputs) (rest : List Inputs) (hin : s.inputs = r :: rest) (hrst : r.rst = true) :
    step s = .next ({ s with inputs := rest } : State).hardwareReset := by
  simp only [step_eq_stepOn s r rest hin, stepOn, hrst, if_true]

/-- Settles O33: P.BYTE faults exactly where no row is selected, and both ways of re-arming lead to R33. -/
theorem pByteFaultsWithoutMeaning : Obligations.PByteFaultsWithoutMeaning := by
  refine ⟨fun s b hnone => ?_, fun s b f hfault => ?_, hasTransition_of_sequenced, fun s => ?_, fun s r hhead hrst => ?_⟩
  · exact exec_pByte_of_no_row s b ((transitionOf_eq_none_iff s.key b).2 hnone)
  · exact (transitionOf_eq_none_iff s.key b).1 (transitionOf_eq_none_of_fault s b f hfault)
  · exact ⟨_, rfl, sequenced_rearm s⟩
  · obtain ⟨rest, hin⟩ := List.head?_eq_some_iff.1 hhead
    exact ⟨_, step_of_rst s r rest hin hrst, sequenced_hardwareReset _⟩

/-- Settles O31. -/
theorem pInitRearmsParser : Obligations.PInitRearmsParser := by
  refine ⟨fun _ => rfl, fun r hop => ?_, rfl⟩
  rw [decode, hop]
  rfl

/-! ### The eight transitions -/

/-- Settles O34. -/
theorem pSyncFindsSentinel : Obligations.PSyncFindsSentinel :=
  fun s hp h3 => ⟨_, rfl, exec_pByte_and_toInstr_of_row s 0x55#8 .sync h3 ⟨hp, rfl⟩⟩

/-- Settles O35. -/
theorem pSkipDropsStrayByte : Obligations.PSkipDropsStrayByte :=
  fun s b hp h3 hb => ⟨_, rfl, exec_pByte_and_toInstr_of_row s b .skip h3 ⟨hp, hb⟩⟩

/-- Settles O36. -/
theorem pIdStoresMessageId : Obligations.PIdStoresMessageId :=
  fun s b hp hh => ⟨_, rfl, exec_pByte_and_toInstr_of_row s b .ident (by simp [hh]) ⟨hp, hh⟩⟩

/-- Settles O37. -/
theorem pLenStartsPayload : Obligations.PLenStartsPayload :=
  fun s b hp hh hb => ⟨_, rfl, exec_pByte_and_toInstr_of_row s b .len (by simp [hh]) ⟨hp, hh, hb⟩⟩

/-- Settles O38. -/
theorem pLen0GoesToChecksum : Obligations.PLen0GoesToChecksum :=
  fun s hp hh => ⟨_, rfl, exec_pByte_and_toInstr_of_row s 0x00#8 .len0 (by simp [hh]) ⟨hp, hh, rfl⟩⟩

theorem readCell_storePayload_cursor (s : State) (b : Byte) : (s.storePayload b).readCell s.cursor.toNat = b := by
  rw [State.readCell_storePayload, if_pos rfl]

theorem readCell_storePayload_of_ne (s : State) (b : Byte) (i : Nat) (h : i ≠ s.cursor.toNat) :
    (s.storePayload b).readCell i = s.readCell i := by
  rw [State.readCell_storePayload, if_neg h]

/-- Settles O39. -/
theorem pPayStoresPayloadByte : Obligations.PPayStoresPayloadByte := by
  intro s b hp h3 hlt
  obtain ⟨hbyte, hrow⟩ := exec_pByte_and_toInstr_of_row s b .pay h3 ⟨hp, hlt⟩
  exact ⟨s.takePay b, hbyte, hrow, rfl, cursor_succ_toNat s.cursor s.pfLength (by omega),
    readCell_storePayload_cursor s b, readCell_storePayload_of_ne s b⟩

/-- Settles O40: the cursor advanced past the last payload byte is the length. -/
theorem pPaylStoresLastByte : Obligations.PPaylStoresLastByte := by
  intro s b hp h3 hlast
  obtain ⟨hbyte, hrow⟩ := exec_pByte_and_toInstr_of_row s b .payl h3 ⟨hp, hlast⟩
  have hcursor : s.cursor + 1#8 = s.pfLength :=
    BitVec.eq_of_toNat_eq ((cursor_succ_toNat s.cursor s.pfLength (by omega)).trans hlast)
  have heffect : s.takePayl b = { s with payload := (s.takePayl b).payload, cursor := s.cursor + 1#8,
                                         pstate := .verifyChecksum, result := .status .incomplete } := rfl
  rw [hcursor] at heffect
  exact ⟨s.takePayl b, hbyte, hrow, heffect, readCell_storePayload_cursor s b, readCell_storePayload_of_ne s b⟩

/-- Settles O41: the meaningful bytes of the frame buffer are the cells below the length. -/
theorem pCsumCompletesFrame : Obligations.PCsumCompletesFrame := by
  refine ⟨fun s b hp h3 => ⟨_, rfl, ?_⟩, rfl, rfl⟩
  have hverdict := takeCsum_result_eq s b
  rw [pFrame_bytes] at hverdict
  rw [← xorfold, ← hverdict]
  exact exec_pByte_and_toInstr_of_row s b .csum h3 hp

/-! ### What a step does to the parser -/

/-- If a step answers a next state, it kept the parser's part of the block, re-armed it or took a transition. -/
theorem step_next_parser (s t : State) (h : step s = .next t) :
    t.parser = s.parser ∨ t.parser = s.rearm.parser ∨
      ∃ (tr : Transition) (b : Byte), tr.RowMatches s.key b ∧ t.parser = (s.take tr b).parser := by
  obtain ⟨q, rfl⟩ | ⟨q, rfl⟩ | ⟨q, rfl⟩ | ⟨q, i, hi⟩ := step_next s t h
  · exact .inl rfl
  · exact .inl rfl
  · exact .inr (.inl rfl)
  · obtain ⟨-, r, a, rfl⟩ | rfl | ⟨tr, b, -, hrow, rfl⟩ := exec_next i _ t hi
    · exact .inl rfl
    · exact .inr (.inl rfl)
    · exact .inr (.inr ⟨tr, b, hrow, by rw [State.take_withInputs]; rfl⟩)

/-! ### The payload buffer and the counters -/

theorem State.parser_readCell (s : State) (i : Nat) : s.parser.readCell i = s.readCell i := rfl

theorem State.parser_cursor (s : State) : s.parser.cursor = s.cursor := rfl

theorem readCell_congr (s t : State) (h : t.parser = s.parser) (i : Nat) : t.readCell i = s.readCell i := by
  rw [← State.parser_readCell, h, State.parser_readCell]

theorem cursor_congr (s t : State) (h : t.parser = s.parser) : t.cursor = s.cursor := by
  rw [← State.parser_cursor, h, State.parser_cursor]

/-- `42_parser.md` R150 for one transition: only P.PAY and P.PAYL store, at a cursor below the length. -/
theorem take_readCell_ne (s : State) (tr : Transition) (b : Byte) (i : Nat) (hrow : tr.RowMatches s.key b)
    (hne : (s.take tr b).readCell i ≠ s.readCell i) :
    s.pstate = .readPayload ∧ i = s.cursor.toNat ∧ s.cursor.toNat < s.pfLength.toNat := by
  cases tr with
  | pay =>
    obtain ⟨hp, hlt⟩ := hrow
    exact ⟨hp, by_contra fun hi => hne (readCell_storePayload_of_ne s b i hi), Nat.lt_of_succ_lt hlt⟩
  | payl =>
    obtain ⟨hp, hlast⟩ := hrow
    exact ⟨hp, by_contra fun hi => hne (readCell_storePayload_of_ne s b i hi), Nat.lt_of_succ_le hlast.le⟩
  | sync | skip | ident | len | len0 | csum => exact absurd rfl hne

/-- Settles O48: a length byte is at most 255, so a cell below it is cell 254 at most. -/
theorem payloadWritesStayBelowLength : Obligations.PayloadWritesStayBelowLength := by
  intro s t i hstep hne
  obtain hkept | hrearmed | ⟨tr, b, hrow, htaken⟩ := step_next_parser s t hstep
  · exact absurd (readCell_congr s t hkept i) hne
  · exact absurd (readCell_congr s.rearm t hrearmed i) hne
  · rw [readCell_congr (s.take tr b) t htaken] at hne
    obtain ⟨hp, rfl, hlt⟩ := take_readCell_ne s tr b i hrow hne
    have hmax := s.pfLength.isLt
    exact ⟨hp, rfl, hlt, by omega⟩

/-- `42_parser.md` R158 for one transition. -/
theorem take_cursor_moves (s : State) (tr : Transition) (b : Byte) (hrow : tr.RowMatches s.key b) :
    (s.take tr b).cursor = s.cursor ∨ (s.take tr b).cursor = 0#8 ∨
      ((s.take tr b).cursor.toNat = s.cursor.toNat + 1 ∧ s.cursor.toNat < s.pfLength.toNat) := by
  cases tr with
  | sync | skip | ident => exact .inl rfl
  | len | len0 | csum => exact .inr (.inl rfl)
  | pay =>
    have hlt : s.cursor.toNat < s.pfLength.toNat := Nat.lt_of_succ_lt hrow.2
    exact .inr (.inr ⟨cursor_succ_toNat s.cursor s.pfLength hlt, hlt⟩)
  | payl =>
    have hlt : s.cursor.toNat < s.pfLength.toNat := Nat.lt_of_succ_le hrow.2.le
    exact .inr (.inr ⟨cursor_succ_toNat s.cursor s.pfLength hlt, hlt⟩)

/-- Settles O49. -/
theorem countersDoNotWrap : Obligations.CountersDoNotWrap := by
  intro s t hs hstep
  obtain ⟨hcount, -⟩ := step_keeps_sequenced s t hs hstep
  refine ⟨?_, Nat.le_of_lt_succ t.cursor.isLt, hcount⟩
  obtain hkept | hrearmed | ⟨tr, b, hrow, htaken⟩ := step_next_parser s t hstep
  · exact .inl (cursor_congr s t hkept)
  · exact .inr (.inl (cursor_congr s.rearm t hrearmed))
  · rw [cursor_congr (s.take tr b) t htaken]
    exact take_cursor_moves s tr b hrow

/-! ### The units side by side -/

/-- What two states with the same parser can differ in. -/
theorem eq_of_parser_eq (s s' : State) (h : s.parser = s'.parser) :
    s' = { s with acc := s'.acc, inputs := s'.inputs, result := s'.result } := by
  cases s
  cases s'
  cases h
  rfl

theorem State.take_withOwn (s : State) (t : Transition) (b a : Byte) (q : List Inputs) (r : Result) :
    ({ s with acc := a, inputs := q, result := r } : State).take t b = { s.take t b with acc := a, inputs := q } := by
  cases t <;> rfl

/-- `42_parser.md` R157: no operation of the parser reads the accumulator or the model's own fields. -/
theorem exec_parser_withOwn (i : Instr) (s t : State) (a : Byte) (q : List Inputs) (r : Result)
    (hi : isParserOp i = true) (h : exec i s = .next t) :
    exec i { s with acc := a, inputs := q, result := r } = .next { t with acc := a, inputs := q } := by
  obtain ⟨rfl, rfl⟩ | ⟨tr, b, h3, hrow, rfl, hform⟩ := exec_parser_next i s t hi h
  · rfl
  · rw [← State.take_withOwn s tr b a q r]
    obtain ⟨hbyte, hinstr⟩ :=
      exec_pByte_and_toInstr_of_row { s with acc := a, inputs := q, result := r } b tr h3 hrow
    obtain rfl | rfl := hform
    · exact hbyte
    · exact hinstr

theorem exec_parser_congr (i : Instr) (s s' t : State) (hi : isParserOp i = true) (hsame : s.parser = s'.parser)
    (h : exec i s = .next t) :
    ∃ t', exec i s' = .next t' ∧ t'.parser = t.parser ∧ t'.result = t.result ∧ t'.acc = s'.acc := by
  rw [eq_of_parser_eq s s' hsame]
  exact ⟨_, exec_parser_withOwn i s t _ _ _ hi h, rfl, rfl, rfl⟩

/-- Settles O51. -/
theorem unitsAreIndependent : Obligations.UnitsAreIndependent := by
  refine ⟨fun i s s' t hi hsame h => ?_, fun i s s' hi hacc => ?_, fun i s s' hi => ?_⟩
  · obtain ⟨t', hexec, hparser, hresult, hacc⟩ := exec_parser_congr i s s' t hi hsame h
    exact ⟨t', hexec, hparser, hresult, exec_acc_of_parserOp_or_pure i s t (.inl hi) h, hacc⟩
  · obtain ⟨f, r, hexec⟩ := exec_other_uniform i hi
    exact ⟨_, _, hexec s, hexec s', rfl, rfl, congrArg f hacc, rfl⟩
  · obtain ⟨r, hexec⟩ := exec_pure_next i hi
    exact ⟨_, _, hexec s, hexec s', rfl, rfl, rfl⟩

/-! ### The completed frame on `p_frame` -/

/-- Between frames the one register of the frame buffer that a transition writes is the start marker, with the value of
the byte P.SYNC finds. -/
theorem take_pFrame_of_waitStart (s : State) (tr : Transition) (b : Byte) (hp : s.pstate = .waitStart)
    (hmarker : s.pfStartMarker = 0x55#8) (hrow : tr.RowMatches s.key b) : (s.take tr b).pFrame = s.pFrame := by
  cases tr with
  | sync =>
    obtain ⟨-, rfl⟩ := hrow
    calc (s.takeSync 0x55#8).pFrame = { s.pFrame with startMarker := 0x55#8 } := rfl
      _ = s.pFrame := by rw [← hmarker]; rfl
  | skip => rfl
  | ident | len | len0 | pay | payl => exact absurd (hp.symm.trans hrow.1) (by decide)
  | csum => exact absurd (hp.symm.trans hrow) (by decide)

/-- Settles O59: only P.CSUM gives a verdict, in WAIT_START no row of another state matches, and in READ_HEADER with
`hdr_count` = 1 only P.ID's does. -/
theorem completedFrameStaysReadable : Obligations.CompletedFrameStaysReadable := by
  refine ⟨fun s t b st h hst hverdict => ?_, fun i s t hp hmarker h => ?_, fun s t b hp hh h => ?_⟩
  · obtain ⟨-, tr, -, rfl⟩ := exec_pByte_next s t b h
    by_cases hcsum : tr = .csum
    · subst hcsum
      exact ⟨rfl, rfl⟩
    · rw [take_result_of_ne_csum s tr b hcsum] at hst
      cases hst
      exact absurd rfl hverdict
  · obtain ⟨-, r, a, rfl⟩ | rfl | ⟨tr, b, -, hrow, rfl⟩ := exec_next i s t h
    · rfl
    · rfl
    · exact take_pFrame_of_waitStart s tr b hp hmarker hrow
  · have hident := exec_pByte_of_row s b .ident (by simp [hh]) ⟨hp, hh⟩
    cases hident.symm.trans h
    rfl

end Sys2Proof.Machine
end

section
/-!
PROOFS. Whole frames fed to the parser (`42_parser.md` R152, R155). The bytes from the length byte on end in P.CSUM of a
state that has received the whole payload, which fixes the statuses and the registers; along the way each byte's row is
the one `frameRows` lists, so the rows do what the bytes do; and operations of the other units between the bytes touch
neither the parser nor its statuses.
-/

namespace Sys2Proof.Machine

/-! ### From the length byte to the verdict -/

theorem byte_ofNat_toNat (n : Nat) (h : n ≤ 255) : (BitVec.ofNat 8 n).toNat = n := by
  rw [BitVec.toNat_ofNat, Nat.mod_eq_of_lt (by omega)]

/-- `42_parser.md` R155: the length byte, as many payload bytes as it says, and the checksum. -/
theorem trace_feed_length_payload_checksum (s : State) (len c : Byte) (p : ByteSeq) (hp : s.pstate = .readHeader)
    (hh : s.hdrCount = 2#2) (hlen : p.length = len.toNat) :
    ∃ v : State, v.HasReceived s.pfStartMarker s.pfMessageId len p ∧
      trace (feed (len :: (p ++ [c]))) s =
        .next (v.takeCsum c, List.replicate (p.length + 1) (.status .incomplete) ++ [(v.takeCsum c).result]) := by
  obtain ⟨u, hlength, hresult, hu⟩ := exec_pByte_length s len hp hh
  obtain ⟨v, hpayload, hv⟩ := trace_feed_payload u _ _ _ [] p hu (by simp [hlen])
  obtain ⟨hchecksum, -⟩ := exec_pByte_checksum v _ _ _ c p hv hlen
  have hverdict : trace (feed [c]) v = .next (v.takeCsum c, [(v.takeCsum c).result]) :=
    trace_cons_of_next _ [] v _ _ _ hchecksum rfl
  have hbody := trace_append_of_next _ _ u v _ _ _ hpayload hverdict
  rw [← feed_append] at hbody
  exact ⟨v, hv, trace_feed_cons_of_incomplete len _ s u _ _ _ hlength hresult hbody⟩

theorem statusOf_ne_incomplete (ok : Bool) : statusOf ok ≠ .incomplete := by
  cases ok <;> decide

/-- Settles O56: the last of the further bytes is taken as the checksum. -/
theorem lengthByteFixesConsumption : Obligations.LengthByteFixesConsumption := by
  intro s n d hp hh hd
  obtain rfl | ⟨p, c, rfl⟩ := List.eq_nil_or_concat' d
  · cases hd
  · have hlen : p.length = n.toNat := by simpa using hd
    obtain ⟨v, hv, hrun⟩ := trace_feed_length_payload_checksum s n c p hp hh hlen
    rw [hlen, State.takeCsum_result] at hrun
    exact ⟨v.takeCsum c, _, hrun, statusOf_ne_incomplete _, rfl, hv.length, hv.messageId⟩

theorem exec_pByte_sentinel (s : State) (hp : s.pstate = .waitStart) (h3 : s.hdrCount ≠ 3#2) :
    exec (.pByte 0x55#8) s = .next (s.takeSync 0x55#8) :=
  exec_pByte_of_row s _ .sync h3 ⟨hp, rfl⟩

theorem exec_pByte_ident (s : State) (b : Byte) (hp : s.pstate = .readHeader) (hh : s.hdrCount = 1#2) :
    exec (.pByte b) s = .next (s.takeIdent b) :=
  exec_pByte_of_row s b .ident (by simp [hh]) ⟨hp, hh⟩

/-- `42_parser.md` R152: start marker and message id before them. -/
theorem trace_feed_wireBytes (s : State) (ident c : Byte) (p : ByteSeq) (hp : s.pstate = .waitStart)
    (h3 : s.hdrCount ≠ 3#2) (hfit : p.length ≤ 255) :
    ∃ v : State, v.HasReceived 0x55#8 ident (BitVec.ofNat 8 p.length) p ∧
      trace (feed (wireBytes ident p c)) s =
        .next (v.takeCsum c, List.replicate (3 + p.length) (.status .incomplete) ++ [(v.takeCsum c).result]) := by
  obtain ⟨v, hv, hbody⟩ := trace_feed_length_payload_checksum ((s.takeSync 0x55#8).takeIdent ident)
    (BitVec.ofNat 8 p.length) c p rfl rfl (byte_ofNat_toNat p.length hfit).symm
  rw [Nat.add_comm 3]
  exact ⟨v, hv, trace_feed_cons_of_incomplete _ _ s _ _ _ _ (exec_pByte_sentinel s hp h3) rfl
    (trace_feed_cons_of_incomplete _ _ _ _ _ _ _ (exec_pByte_ident _ ident rfl rfl) rfl hbody)⟩

/-! ### The rows a frame takes -/

theorem trace_cons_congr (i j : Instr) (is js : List Instr) (s u : State) (hi : exec i s = .next u)
    (hj : exec j s = .next u) (hrest : trace is u = trace js u) : trace (i :: is) s = trace (j :: js) s := by
  simp only [trace, hi, hj, hrest]

/-- A row in front that matches does what its byte in front does. -/
theorem trace_toInstr_cons_eq (s u : State) (t : Transition) (b : Byte) (is : List Instr) (q : ByteSeq)
    (hrow : t.RowMatches s.key b) (hexec : exec (.pByte b) s = .next u) (hrest : trace is u = trace (feed q) u) :
    trace (t.toInstr b :: is) s = trace (feed (b :: q)) s := by
  obtain ⟨h3, -⟩ := exec_pByte_next s u b hexec
  obtain ⟨hbyte, hinstr⟩ := exec_pByte_and_toInstr_of_row s b t h3 hrow
  exact trace_cons_congr _ _ is (feed q) s (s.take t b) hinstr hbyte
    (Host.Outcome.next.inj (hexec.symm.trans hbyte) ▸ hrest)

namespace State.HasReceived

variable {s : State} {marker ident len : Byte} {p : ByteSeq}

theorem rowMatches_pay (b : Byte) (hs : s.HasReceived marker ident len p) (h : p.length + 1 < len.toNat) :
    Transition.pay.RowMatches s.key b :=
  ⟨hs.pstate.trans (if_pos (by omega)), by simpa [hs.cursor, hs.length] using h⟩

theorem rowMatches_payl (b : Byte) (hs : s.HasReceived marker ident len p) (h : p.length + 1 = len.toNat) :
    Transition.payl.RowMatches s.key b :=
  ⟨hs.pstate.trans (if_pos (by omega)), by simpa [hs.cursor, hs.length] using h⟩

theorem rowMatches_csum (b : Byte) (hs : s.HasReceived marker ident len p) (h : p.length = len.toNat) :
    Transition.csum.RowMatches s.key b :=
  hs.pstate.trans (if_neg h.not_lt)

end State.HasReceived

theorem trace_csumRow_eq_feed (s : State) (marker ident len c : Byte) (p : ByteSeq)
    (hs : s.HasReceived marker ident len p) (hfull : p.length = len.toNat) :
    trace [.pCsum c] s = trace (feed [c]) s :=
  trace_toInstr_cons_eq s _ .csum c [] [] (hs.rowMatches_csum c hfull) (exec_pByte_checksum s _ _ _ c p hs hfull).1 rfl

/-- P.PAY for all remaining payload bytes but the last, P.PAYL for the last, then P.CSUM. -/
theorem trace_payloadRows_eq_feed (s : State) (marker ident len last c : Byte) (p q : ByteSeq)
    (hs : s.HasReceived marker ident len p) (hfit : p.length + q.length + 1 = len.toNat) :
    trace (q.map .pPay ++ [.pPayl last, .pCsum c]) s = trace (feed (q ++ [last, c])) s := by
  induction q generalizing s p with
  | nil =>
    have hlast : p.length + 1 = len.toNat := hfit
    obtain ⟨u, hexec, -, hu⟩ := exec_pByte_payload s _ _ _ last p hs (by omega)
    exact trace_toInstr_cons_eq s u .payl last [.pCsum c] [c] (hs.rowMatches_payl last hlast) hexec
      (trace_csumRow_eq_feed u _ _ _ c _ hu (by simpa using hlast))
  | cons b q ih =>
    rw [List.length_cons] at hfit
    obtain ⟨u, hexec, -, hu⟩ := exec_pByte_payload s _ _ _ b p hs (by omega)
    exact trace_toInstr_cons_eq s u .pay b _ (q ++ [last, c]) (hs.rowMatches_pay b (by omega)) hexec
      (ih u _ hu (by simp; omega))

/-- `42_parser.md` R146: a frame without payload. -/
theorem trace_len0Row_eq_feed (s : State) (c : Byte) (hp : s.pstate = .readHeader) (hh : s.hdrCount = 2#2) :
    trace [.pLen0, .pCsum c] s = trace (feed [0x00#8, c]) s := by
  obtain ⟨u, hexec, -, hu⟩ := exec_pByte_length s 0x00#8 hp hh
  exact trace_toInstr_cons_eq s u .len0 _ _ [c] ⟨hp, hh, rfl⟩ hexec (trace_csumRow_eq_feed u _ _ _ c [] hu rfl)

/-- `42_parser.md` R145: a frame with payload. -/
theorem trace_lenRow_eq_feed (s : State) (len last c : Byte) (q : ByteSeq) (hp : s.pstate = .readHeader)
    (hh : s.hdrCount = 2#2) (hlen : q.length + 1 = len.toNat) :
    trace (.pLen len :: (q.map .pPay ++ [.pPayl last, .pCsum c])) s = trace (feed (len :: (q ++ [last, c]))) s := by
  have hne : len ≠ 0x00#8 := by
    rintro rfl
    cases hlen
  obtain ⟨u, hexec, -, hu⟩ := exec_pByte_length s len hp hh
  exact trace_toInstr_cons_eq s u .len len _ _ ⟨hp, hh, hne⟩ hexec
    (trace_payloadRows_eq_feed u _ _ _ last c [] q hu (by simpa using hlen))

theorem trace_headerRows_eq_feed (s : State) (ident : Byte) (is : List Instr) (q : ByteSeq) (hp : s.pstate = .waitStart)
    (h3 : s.hdrCount ≠ 3#2)
    (hrest : trace is ((s.takeSync 0x55#8).takeIdent ident) =
      trace (feed q) ((s.takeSync 0x55#8).takeIdent ident)) :
    trace (.pSync :: .pId ident :: is) s = trace (feed (0x55#8 :: ident :: q)) s :=
  trace_toInstr_cons_eq s _ .sync _ _ _ ⟨hp, rfl⟩ (exec_pByte_sentinel s hp h3)
    (trace_toInstr_cons_eq _ _ .ident _ _ _ ⟨rfl, rfl⟩ (exec_pByte_ident _ ident rfl rfl) hrest)

theorem frameRows_concat (ident last c : Byte) (q : ByteSeq) :
    frameRows ident (q ++ [last]) c =
      .pSync :: .pId ident :: .pLen (BitVec.ofNat 8 (q.length + 1)) :: (q.map .pPay ++ [.pPayl last, .pCsum c]) := by
  simp [frameRows]

theorem wireBytes_concat (ident last c : Byte) (q : ByteSeq) :
    wireBytes ident (q ++ [last]) c = 0x55#8 :: ident :: BitVec.ofNat 8 (q.length + 1) :: (q ++ [last, c]) := by
  simp [wireBytes]

/-- `42_parser.md` R152: the transitions that the bytes of a whole frame take. -/
theorem trace_frameRows_eq_feed (s : State) (ident c : Byte) (p : ByteSeq) (hp : s.pstate = .waitStart)
    (h3 : s.hdrCount ≠ 3#2) (hfit : p.length ≤ 255) :
    trace (frameRows ident p c) s = trace (feed (wireBytes ident p c)) s := by
  obtain rfl | ⟨q, last, rfl⟩ := List.eq_nil_or_concat' p
  · exact trace_headerRows_eq_feed s ident _ _ hp h3 (trace_len0Row_eq_feed _ c rfl rfl)
  · have hlen := byte_ofNat_toNat (q.length + 1) (by simpa using hfit)
    rw [frameRows_concat, wireBytes_concat]
    exact trace_headerRows_eq_feed s ident _ _ hp h3 (trace_lenRow_eq_feed _ _ last c q rfl rfl hlen.symm)

/-! ### Operations of the other units between the bytes -/

theorem statusesOf_append (rs qs : List Result) : statusesOf (rs ++ qs) = statusesOf rs ++ statusesOf qs :=
  List.filterMap_append

theorem statusesOf_cons (r : Result) (rs : List Result) : statusesOf (r :: rs) = statusesOf [r] ++ statusesOf rs :=
  statusesOf_append [r] rs

theorem statusesOf_replicate (n : Nat) (st : Status) :
    statusesOf (List.replicate n (.status st)) = List.replicate n st := by
  induction n with
  | zero => rfl
  | succ n ih => rw [List.replicate_succ, List.replicate_succ, ← ih]; rfl

theorem statusesOf_answerFrame (s : State) (r : Except ErrorCode Frame) : statusesOf [(s.answerFrame r).result] = [] := by
  cases r <;> rfl

/-- Only the parser answers a status. -/
theorem statusesOf_other (i : Instr) (s t : State) (hi : isParserOp i = false) (h : exec i s = .next t) :
    statusesOf [t.result] = [] := by
  cases i with
  | csClr | csFold | csum | verify | ser => cases h; rfl
  | build msg ident n => cases h; exact statusesOf_answerFrame s (buildFrame msg ident n)
  | deser buf => cases h; exact statusesOf_answerFrame s (deserialise buf)
  | _ => cases hi

/-- `42_parser.md` R152, the last sentence, by induction on the operations: the parser's own see the parser they would
see without the others. -/
theorem trace_of_trace_filter_parserOp (ops : List Instr) (s s' t : State) (rs : List Result)
    (hsame : s.parser = s'.parser) (h : trace (ops.filter isParserOp) s = .next (t, rs)) :
    ∃ t' rs', trace ops s' = .next (t', rs') ∧ t'.parser = t.parser ∧ statusesOf rs' = statusesOf rs := by
  induction ops generalizing s s' rs with
  | nil =>
    cases h
    exact ⟨s', [], rfl, hsame.symm, rfl⟩
  | cons i ops ih =>
    cases hi : isParserOp i with
    | true =>
      rw [List.filter_cons_of_pos hi] at h
      obtain ⟨u, qs, hexec, hrest, rfl⟩ := trace_cons_next i _ s t rs h
      obtain ⟨u', hexec', hparser, hresult, -⟩ := exec_parser_congr i s s' u hi hsame hexec
      obtain ⟨t', qs', hrest', ht', hqs⟩ := ih u u' qs hparser.symm hrest
      refine ⟨t', _, trace_cons_of_next i ops s' u' t' qs' hexec' hrest', ht', ?_⟩
      rw [statusesOf_cons, hresult, hqs, ← statusesOf_cons]
    | false =>
      rw [List.filter_cons_of_neg (Bool.eq_false_iff.1 hi)] at h
      obtain ⟨r, a, hexec'⟩ := exec_other_next i s' hi
      obtain ⟨t', qs', hrest', ht', hqs⟩ := ih s { s' with acc := a, result := r } rs hsame h
      refine ⟨t', _, trace_cons_of_next i ops s' _ t' qs' hexec' hrest', ht', ?_⟩
      rw [statusesOf_cons, statusesOf_other i s' _ hi hexec', List.nil_append, hqs]

/-! ### The verdict of a whole frame -/

theorem feed_length (q : ByteSeq) : (feed q).length = q.length := List.length_map _

theorem wireBytes_length (ident c : Byte) (p : ByteSeq) : (wireBytes ident p c).length = 4 + p.length := by
  simp [wireBytes]
  omega

/-- `10_state.md` R21: bytes fed to the parser leave the accumulator alone. -/
theorem trace_feed_acc (q : ByteSeq) (s t : State) (rs : List Result) (h : trace (feed q) s = .next (t, rs)) :
    t.acc = s.acc := by
  have hfolds : (feed q).filterMap foldByte = [] := by simp [feed, foldByte]
  rw [trace_acc (feed q) s t rs (by simp [feed]) h, hfolds, xorfold_nil, BitVec.xor_zero]

namespace State.HasReceived

variable {s : State} {marker ident len : Byte} {p : ByteSeq}

theorem pFrame_bytes (hs : s.HasReceived marker ident len p) (hfull : p.length = len.toNat) : s.pFrame.bytes = p := by
  rw [Machine.pFrame_bytes, hs.length, ← hfull]
  exact hs.cells

theorem takeCsum_result (c : Byte) (hs : s.HasReceived marker ident len p) (hfull : p.length = len.toNat) :
    (s.takeCsum c).result =
      .status (if c = ([ident, len] ++ p).foldl (fun a b => a ^^^ b) 0x00#8 then .frameValid else .frameCorrupted) := by
  rw [takeCsum_result_eq, hs.messageId, hs.length, hs.pFrame_bytes hfull, xorfold]
  simp only [eq_comm]

theorem readCell_takeCsum (c : Byte) (hs : s.HasReceived marker ident len p) (hfull : p.length = len.toNat) (i : Nat)
    (hi : i < p.length) : some ((s.takeCsum c).readCell i) = p[i]? := by
  rw [← hs.pFrame_bytes hfull]
  exact (pFrame_bytes_getElem? s i (by rwa [hs.length, ← hfull])).symm

end State.HasReceived

/-- Settles O54: the run ends in P.CSUM of a state that has received the whole payload. -/
theorem wholeFrameGivesItsVerdict : Obligations.WholeFrameGivesItsVerdict := by
  intro s ident c p hp h3 hfit
  have hlen := byte_ofNat_toNat p.length hfit
  obtain ⟨v, hv, hfeed⟩ := trace_feed_wireBytes s ident c p hp h3 hfit
  rw [hv.takeCsum_result c hlen.symm] at hfeed
  refine ⟨v.takeCsum c, _, hfeed, (trace_frameRows_eq_feed s ident c p hp h3 hfit).trans hfeed, ?_, rfl, rfl, rfl, rfl,
    trace_feed_acc _ s _ _ hfeed, hv.startMarker, hv.messageId, ?_, rfl, hv.readCell_takeCsum c hlen.symm,
    fun ops hops => ?_⟩
  · rw [feed_length, wireBytes_length]
  · rw [State.takeCsum_pfLength, hv.length, hlen]
  · obtain ⟨t', rs, hrun, hparser, hstatuses⟩ := trace_of_trace_filter_parserOp ops s s _ _ rfl (hops ▸ hfeed)
    refine ⟨t', rs, hrun, hparser, ?_⟩
    rw [hstatuses, statusesOf_append, statusesOf_replicate]
    rfl

end Sys2Proof.Machine
end

section
/-!
PROOFS. Errors, and that the block never halts (`60_exceptions.md`). An error is read off the answer: BUILD and DESER
answer what their case analyses return, VERIFY a verdict, and of the transitions only P.CSUM answers anything but
Incomplete. For R181, a request the ports can express is decoded to one of the nine operations or is a reserved code;
from a state of R33 each operation completes, and the step leaves such a state with the rest of the queue.
-/

namespace Sys2Proof.Machine

/-! ### The errors of BUILD, DESER and VERIFY -/

theorem buildFrame_error (msg : ByteSeq) (ident : Byte) (n : BitVec 16) (e : ErrorCode)
    (h : buildFrame msg ident n = .error e) : e = .oversizedPayload ∨ e = .messageTooShort := by
  unfold buildFrame at h
  split at h
  · cases h; exact .inl rfl
  · split at h
    · cases h; exact .inr rfl
    · cases h

theorem deserialise_error (buf : ByteSeq) (e : ErrorCode) (h : deserialise buf = .error e) : e = .truncatedInput := by
  by_cases hlen : 4 + (seqByte buf 2).toNat ≤ buf.length
  · rw [deserialise_of_complete buf hlen] at h
    cases h
  · rw [deserialise_of_short buf (Nat.lt_of_not_le hlen)] at h
    cases h
    rfl

theorem eq_error_of_answerFrame_errorOf (s : State) (r : Except ErrorCode Frame) (e : ErrorCode)
    (h : (s.answerFrame r).result.errorOf = some e) : r = .error e := by
  cases r with
  | ok f => cases h
  | error e' => cases h; rfl

theorem errorOf_verdict_eq_some (ok : Bool) (e : ErrorCode) (h : (Result.verdict ok).errorOf = some e) :
    e = .checksumMismatch := by
  cases ok with
  | true => cases h
  | false => cases h; rfl

/-- `20_memory.md` R60. -/
theorem exec_pure_block (i : Instr) (s t : State) (hi : isPure i = true) (h : exec i s = .next t) :
    t.block = s.block := by
  obtain ⟨r, hexec⟩ := exec_pure_next i hi
  cases (hexec s).symm.trans h
  rfl

/-- The operations outside the parser that can answer an error are pure: CS.CLR, CS.FOLD, CSUM and SER answer none. -/
theorem exec_other_error (i : Instr) (s t : State) (e : ErrorCode) (hi : isParserOp i = false)
    (h : exec i s = .next t) (he : t.result.errorOf = some e) :
    (∃ msg ident n, i = .build msg ident n ∧ (e = .oversizedPayload ∨ e = .messageTooShort) ∧ t.block = s.block) ∨
    (∃ f, i = .verify f ∧ e = .checksumMismatch ∧ t.block = s.block) ∨
    (∃ buf, i = .deser buf ∧ e = .truncatedInput ∧ t.block = s.block) := by
  cases i with
  | csClr | csFold | csum | ser => cases h; cases he
  | build msg ident n =>
    have hblock := exec_pure_block _ s t rfl h
    cases h
    have herror := eq_error_of_answerFrame_errorOf s (buildFrame msg ident n) e he
    exact .inl ⟨msg, ident, n, rfl, buildFrame_error msg ident n e herror, hblock⟩
  | verify f =>
    have hblock := exec_pure_block _ s t rfl h
    cases h
    exact .inr (.inl ⟨f, rfl, errorOf_verdict_eq_some f.isValid e he, hblock⟩)
  | deser buf =>
    have hblock := exec_pure_block _ s t rfl h
    cases h
    have herror := eq_error_of_answerFrame_errorOf s (deserialise buf) e he
    exact .inr (.inr ⟨buf, rfl, deserialise_error buf e herror, hblock⟩)
  | _ => cases hi

/-! ### The error of P.BYTE -/

theorem errorOf_status_eq_some (st : Status) (e : ErrorCode) (h : (Result.status st).errorOf = some e) :
    st = .frameCorrupted ∧ e = .checksumMismatch := by
  cases st with
  | incomplete | frameValid => cases h
  | frameCorrupted => cases h; exact ⟨rfl, rfl⟩

/-- `42_parser.md` R149: a transition that answers an error completes a corrupted frame. -/
theorem take_error (s : State) (tr : Transition) (b : Byte) (e : ErrorCode)
    (h : (s.take tr b).result.errorOf = some e) :
    tr = .csum ∧ e = .checksumMismatch ∧ (s.take tr b).result = .status .frameCorrupted := by
  have hcsum : tr = .csum := by
    by_contra hne
    rw [take_result_of_ne_csum s tr b hne] at h
    cases h
  obtain ⟨st, hst⟩ := exists_take_result_eq_status s tr b
  rw [hst] at h ⊢
  obtain ⟨rfl, rfl⟩ := errorOf_status_eq_some st e h
  exact ⟨hcsum, rfl, rfl⟩

/-- Settles O52: P.INIT answers no error; of the transitions only P.CSUM does, and it re-arms whatever the verdict. -/
theorem errorsOfEachOperation : Obligations.ErrorsOfEachOperation := by
  intro i s t e h he
  cases hi : isParserOp i with
  | false =>
    obtain hbuild | hverify | hdeser := exec_other_error i s t e hi h he
    · exact .inl hbuild
    · exact .inr (.inl hverify)
    · exact .inr (.inr (.inl hdeser))
  | true =>
    obtain ⟨-, rfl⟩ | ⟨tr, b, -, hrow, rfl, hform⟩ := exec_parser_next i s t hi h
    · cases he
    · obtain ⟨rfl, rfl, hresult⟩ := take_error s tr b e he
      exact .inr (.inr (.inr ⟨b, hform, rfl, hrow, hresult, rfl, rfl, rfl⟩))

/-! ### What the decoder makes of a request the ports can express -/

/-- `00_scope.md` R8: the codes of the three operations that take a sequence. -/
theorem fits_of_expressible (r : Inputs) (h : expressible r = true)
    (hop : r.op.toNat = 2 ∨ r.op.toNat = 3 ∨ r.op.toNat = 6) : ByteSeq.fits r.aSeq = true := by
  have hcode : r.op = 2#4 ∨ r.op = 3#4 ∨ r.op = 6#4 :=
    hop.imp BitVec.eq_of_toNat_eq (.imp BitVec.eq_of_toNat_eq BitVec.eq_of_toNat_eq)
  obtain hcode | hcode | hcode := hcode <;> simpa [expressible, hcode] using h

theorem decode_error_of_expressible (r : Inputs) (e : DecodeError) (h : expressible r = true)
    (hdec : decode r = .error e) : e = .reservedOp r.op := by
  unfold decode at hdec
  split at hdec
  case h_3 hop | h_4 hop | h_7 hop =>
    rw [decodeSeq_of_fits _ _ (fits_of_expressible r h (by omega))] at hdec
    cases hdec
  case h_10 =>
    cases hdec
    rfl
  all_goals cases hdec

/-! ### Every step completes -/

/-- The parser operations a request can select: a transition row is requested as P.BYTE of its byte. -/
theorem pInit_or_pByte_of_requestedOp (i : Instr) (hi : isParserOp i = true) (h : requestedOp i = i) :
    i = .pInit ∨ ∃ b, i = .pByte b := by
  cases i with
  | pInit => exact .inl rfl
  | pByte b => exact .inr ⟨b, rfl⟩
  | csClr | csFold | csum | build | verify | ser | deser => cases hi
  | pSync | pSkip | pId | pLen | pLen0 | pPay | pPayl | pCsum => cases h

theorem exec_pByte_completes (s : State) (b : Byte) (hs : s.Sequenced) : ∃ t, exec (.pByte b) s = .next t := by
  obtain ⟨tr, hsel⟩ := (exists_transitionOf_iff s b).2 (hasTransition_of_sequenced s hs)
  obtain ⟨h3, hrow⟩ := (transitionOf_eq_some_iff s.key b tr).1 hsel
  exact ⟨_, exec_pByte_of_row s b tr h3 hrow⟩

theorem exec_requested_completes (i : Instr) (s : State) (hs : s.Sequenced) (h : requestedOp i = i) :
    ∃ t, exec i s = .next t := by
  cases hi : isParserOp i with
  | false =>
    obtain ⟨_, _, hexec⟩ := exec_other_next i s hi
    exact ⟨_, hexec⟩
  | true =>
    obtain rfl | ⟨b, rfl⟩ := pInit_or_pByte_of_requestedOp i hi h
    · exact ⟨_, rfl⟩
    · exact exec_pByte_completes s b hs

theorem stepOn_completes (r : Inputs) (s : State) (hs : s.Sequenced) (hr : expressible r = true) :
    ∃ t, stepOn r s = .next t ∧ t.inputs = s.inputs := by
  unfold stepOn
  split
  · exact ⟨_, rfl, rfl⟩
  · split
    · cases hdec : decode r with
      | ok i =>
        obtain ⟨-, hop, -⟩ := decode_ok r i hdec
        obtain ⟨t, hexec⟩ := exec_requested_completes i s hs hop
        exact ⟨t, hexec, exec_inputs i s t hexec⟩
      | error e =>
        obtain rfl := decode_error_of_expressible r e hr hdec
        exact ⟨_, rfl, rfl⟩
    · exact ⟨_, rfl, rfl⟩

/-- A state of R33 with inputs the ports can express to come: what every step needs to complete, and keeps. -/
def State.Ready (s : State) : Prop := s.Sequenced ∧ ∀ r ∈ s.inputs, expressible r = true

theorem step_completes (s : State) (h : s.Ready) : ∃ t, step s = .next t ∧ t.inputs = s.inputs.tail := by
  obtain ⟨hs, hinputs⟩ := h
  cases hin : s.inputs with
  | nil => exact ⟨s.idle, by simp only [step, State.fetch_nil s hin], hin⟩
  | cons r rest =>
    rw [step_eq_stepOn s r rest hin]
    exact stepOn_completes r _ hs (hinputs r (hin ▸ List.mem_cons_self))

theorem step_ready (s : State) (h : s.Ready) : ∃ t, step s = .next t ∧ t.Ready := by
  obtain ⟨t, hstep, htail⟩ := step_completes s h
  obtain ⟨hs, hinputs⟩ := h
  exact ⟨t, hstep, step_keeps_sequenced s t hs hstep, fun r hr => hinputs r (List.mem_of_mem_tail (htail ▸ hr))⟩

theorem run_completes_of_step (M : Host.Core) (P : M.State → Prop) (hstep : ∀ s, P s → ∃ t, M.step s = .next t ∧ P t)
    (n : Nat) (s : M.State) (hs : P s) : ∃ t, M.run n s = .next t := by
  induction n generalizing s with
  | zero => exact ⟨s, rfl⟩
  | succ n ih =>
    obtain ⟨u, hu, hPu⟩ := hstep s hs
    rw [run_succ_of_step M n s u hu]
    exact ih u hPu

/-- Settles O53, by induction on the number of steps: each step completes and leaves a state of R33 with the rest of the
queue. -/
theorem blockNeverHalts : Obligations.BlockNeverHalts :=
  fun s n hs hinputs => run_completes_of_step Sys2Proof.core State.Ready step_ready n s ⟨hs, hinputs⟩

end Sys2Proof.Machine
end

section
/-!
PROOFS. Reset in a run, and a frame that stops before its last byte (`70_reset_and_hazards.md` R200, R206). A truncated
frame ends behind the start marker, behind the message id, or past the length byte. In each place the next byte, if
there is one, answers Incomplete and leads to the next place, so the proof follows the bytes of the frame.
-/

namespace Sys2Proof.Machine

/-! ### Reset -/

/-- Settles O2: reset is the effect of `State.hardwareReset` once the input is taken. -/
theorem resetInputWinsOverRequest : Obligations.ResetInputWinsOverRequest :=
  step_of_rst

/-! ### Bytes that do not complete a frame -/

/-- Each of the bytes `q` answers Incomplete, and they leave the parser inside a frame. -/
def State.StaysInside (s : State) (q : ByteSeq) : Prop :=
  ∃ t, trace (feed q) s = .next (t, List.replicate q.length (.status .incomplete)) ∧ t.pstate ≠ .waitStart

theorem staysInside_nil (s : State) (hp : s.pstate ≠ .waitStart) : s.StaysInside [] :=
  ⟨s, rfl, hp⟩

theorem staysInside_cons (s u : State) (b : Byte) (q : ByteSeq) (hexec : exec (.pByte b) s = .next u)
    (hresult : u.result = .status .incomplete) (hrest : u.StaysInside q) : s.StaysInside (b :: q) := by
  obtain ⟨t, hrun, ht⟩ := hrest
  have hcons := trace_cons_of_next (.pByte b) (feed q) s u t _ hexec hrun
  rw [hresult] at hcons
  exact ⟨t, hcons, ht⟩

/-- Past the length byte the parser waits for payload or for the checksum. -/
theorem State.HasReceived.pstate_ne_waitStart {s : State} {marker ident len : Byte} {p : ByteSeq}
    (hs : s.HasReceived marker ident len p) : s.pstate ≠ .waitStart := by
  rw [hs.pstate]
  split <;> decide

/-- Payload bytes, the last one included, do not complete the frame: the checksum is still to come. -/
theorem State.HasReceived.staysInside {s : State} {marker ident len : Byte} {p : ByteSeq}
    (hs : s.HasReceived marker ident len p) (q : ByteSeq) (hfit : p.length + q.length ≤ len.toNat) :
    s.StaysInside q := by
  obtain ⟨t, hrun, ht⟩ := trace_feed_payload s marker ident len p q hs hfit
  exact ⟨t, hrun, ht.pstate_ne_waitStart⟩

/-! ### The places where a frame can stop -/

/-- Behind the message id: nothing more, or the length byte and at most the whole payload. -/
theorem staysInside_take_length_payload (s : State) (len c : Byte) (p : ByteSeq) (k : Nat) (hp : s.pstate = .readHeader)
    (hh : s.hdrCount = 2#2) (hlen : p.length = len.toNat) (hk : k ≤ 1 + p.length) :
    s.StaysInside ((len :: (p ++ [c])).take k) := by
  cases k with
  | zero => exact staysInside_nil s (by simp [hp])
  | succ j =>
    have hj : j ≤ p.length := by omega
    obtain ⟨u, hexec, hresult, hu⟩ := exec_pByte_length s len hp hh
    rw [List.take_succ_cons, List.take_append_of_le_length hj]
    exact staysInside_cons s u len _ hexec hresult (hu.staysInside (p.take j) (by simp [← hlen]))

/-- Behind the start marker: nothing more, or the message id and what may follow it. -/
theorem staysInside_take_ident (s : State) (ident len c : Byte) (p : ByteSeq) (k : Nat) (hp : s.pstate = .readHeader)
    (hh : s.hdrCount = 1#2) (hlen : p.length = len.toNat) (hk : k ≤ 2 + p.length) :
    s.StaysInside ((ident :: len :: (p ++ [c])).take k) := by
  cases k with
  | zero => exact staysInside_nil s (by simp [hp])
  | succ j =>
    exact staysInside_cons s _ ident _ (exec_pByte_ident s ident hp hh) rfl
      (staysInside_take_length_payload (s.takeIdent ident) len c p j hp rfl hlen (by omega))

theorem staysInside_take_wireBytes (s : State) (ident c : Byte) (p : ByteSeq) (k : Nat) (hp : s.pstate = .waitStart)
    (h3 : s.hdrCount ≠ 3#2) (hfit : p.length ≤ 255) (hpos : 0 < k) (hk : k < 4 + p.length) :
    s.StaysInside ((wireBytes ident p c).take k) := by
  obtain ⟨j, rfl⟩ := Nat.exists_eq_add_one.2 hpos
  exact staysInside_cons s _ 0x55#8 _ (exec_pByte_sentinel s hp h3) rfl
    (staysInside_take_ident (s.takeSync 0x55#8) ident _ c p j rfl rfl (byte_ofNat_toNat p.length hfit).symm (by omega))

/-- Settles O58: `k` bytes of the frame are `k` answers. -/
theorem truncatedFrameStaysIncomplete : Obligations.TruncatedFrameStaysIncomplete := by
  intro s ident c p k hp h3 hfit hpos hk
  obtain ⟨t, hrun, ht⟩ := staysInside_take_wireBytes s ident c p k hp h3 hfit hpos hk
  have hcount : ((wireBytes ident p c).take k).length = k :=
    List.length_take_of_le (by rw [wireBytes_length]; omega)
  rw [hcount] at hrun
  exact ⟨t, hrun, ht⟩

end Sys2Proof.Machine
end
